-- ==== Sys2Proof/Word.lean ====
section
/-! DEFINITION. The words of the FrameScanner: a byte of BUF, the 32-bit window W (00_scope.md R7, 30_encoding.md R46) and
the 80-bit tag header T (30_encoding.md R49, R54). Registers and offsets are natural numbers (00_scope.md R6, R8; log entry 2). -/

namespace Sys2Proof

/-- One byte of BUF, 0 to 255 (R7). -/
abbrev Byte := BitVec 8

/-- The 32-bit window W; bit 31 is bit 7 of the byte at the lowest offset (R7). -/
abbrev Window := BitVec 32

/-- The 80-bit tag header T = MemRead(0, 10) (R54). -/
abbrev TagHeader := BitVec 80

end Sys2Proof
end

