-- ==== Sys2Proof/Syntax.lean ====
section
/-! DEFINITION. The two formats of 30_encoding.md R45 as records of their fields, and the instructions: one constructor for each
row of opcode_table.json (00_scope.md R5; 30_encoding.md R51, R54, R55). The bits no rule interprets are operands as
well (30_encoding.md R46, R49), so that an instruction stands for one word and nothing of the word is lost; no meaning
reads them. -/

namespace Sys2Proof

/-- Format H, the frame header window, most significant field first (30_encoding.md R46). `bit16` and `low` are the ten
bits R46 leaves unnamed. -/
structure FormatH where
  syncWord : BitVec 11
  mpegVersion : BitVec 2
  layer : BitVec 2
  bit16 : BitVec 1
  bitrateIndex : BitVec 4
  sampleRateIndex : BitVec 2
  padding : BitVec 1
  low : BitVec 9
deriving DecidableEq, Repr

/-- Format T, the tag header, lowest offset first (30_encoding.md R49). -/
structure FormatT where
  marker : BitVec 24
  version : BitVec 16
  flags : BitVec 8
  size0 : Byte
  size1 : Byte
  size2 : Byte
  size3 : Byte
deriving DecidableEq, Repr

/-- The formats a row of the opcode table can have (30_encoding.md R45, R55): T, H, or none. -/
inductive Format where
  /-- The 10-byte tag header at offset 0 (R49). -/
  | tagHeader
  /-- The 4-byte window at CUR (R46). -/
  | window
  /-- No byte is read: END (R55). -/
  | noBytes
deriving DecidableEq, Repr

/-- The rows of opcode_table.json. -/
inductive Instr where
  /-- LAUNCH.TAG (R54, R95): the marker is present; version and flags are not interpreted (R62). -/
  | launchTag (version : BitVec 16) (flags : BitVec 8) (size0 size1 size2 size3 : Byte)
  /-- LAUNCH.NOTAG (R54, R95): the 10 bytes without the marker, or none where fewer than 10 bytes are launched. -/
  | launchNotag (header : Option TagHeader)
  /-- END (R96). -/
  | endScan
  /-- REJECT.VER.0 (R98): sync, mpegVersion 0. -/
  | rejectVer0 (layer : BitVec 2) (bit16 : BitVec 1) (bitrateIndex : BitVec 4) (sampleRateIndex : BitVec 2) (padding : BitVec 1) (low : BitVec 9)
  /-- REJECT.VER.1 (R98): sync, mpegVersion 1. -/
  | rejectVer1 (layer : BitVec 2) (bit16 : BitVec 1) (bitrateIndex : BitVec 4) (sampleRateIndex : BitVec 2) (padding : BitVec 1) (low : BitVec 9)
  /-- REJECT.VER.2 (R98): sync, mpegVersion 2. -/
  | rejectVer2 (layer : BitVec 2) (bit16 : BitVec 1) (bitrateIndex : BitVec 4) (sampleRateIndex : BitVec 2) (padding : BitVec 1) (low : BitVec 9)
  /-- REJECT.LAY.0 (R98): sync, version 3, layer 0. -/
  | rejectLay0 (bit16 : BitVec 1) (bitrateIndex : BitVec 4) (sampleRateIndex : BitVec 2) (padding : BitVec 1) (low : BitVec 9)
  /-- REJECT.LAY.2 (R98): sync, version 3, layer 2. -/
  | rejectLay2 (bit16 : BitVec 1) (bitrateIndex : BitVec 4) (sampleRateIndex : BitVec 2) (padding : BitVec 1) (low : BitVec 9)
  /-- REJECT.LAY.3 (R98): sync, version 3, layer 3. -/
  | rejectLay3 (bit16 : BitVec 1) (bitrateIndex : BitVec 4) (sampleRateIndex : BitVec 2) (padding : BitVec 1) (low : BitVec 9)
  /-- REJECT.BR.0 (R98): sync, version 3, layer 1, bitrateIndex 0. -/
  | rejectBr0 (bit16 : BitVec 1) (sampleRateIndex : BitVec 2) (padding : BitVec 1) (low : BitVec 9)
  /-- REJECT.BR.15 (R98): sync, version 3, layer 1, bitrateIndex 15. -/
  | rejectBr15 (bit16 : BitVec 1) (sampleRateIndex : BitVec 2) (padding : BitVec 1) (low : BitVec 9)
  /-- REJECT.SR.3 (R98): sync, version 3, layer 1, bitrateIndex 1 to 14, sampleRateIndex 3. -/
  | rejectSr3 (bit16 : BitVec 1) (bitrateIndex : BitVec 4) (padding : BitVec 1) (low : BitVec 9)
  /-- FRAME.32.44100 (R99): bitrateIndex 1, sampleRateIndex 0. -/
  | frame32_44100 (bit16 : BitVec 1) (padding : BitVec 1) (low : BitVec 9)
  /-- FRAME.32.48000 (R99): bitrateIndex 1, sampleRateIndex 1. -/
  | frame32_48000 (bit16 : BitVec 1) (padding : BitVec 1) (low : BitVec 9)
  /-- FRAME.32.32000 (R99): bitrateIndex 1, sampleRateIndex 2. -/
  | frame32_32000 (bit16 : BitVec 1) (padding : BitVec 1) (low : BitVec 9)
  /-- FRAME.40.44100 (R99): bitrateIndex 2, sampleRateIndex 0. -/
  | frame40_44100 (bit16 : BitVec 1) (padding : BitVec 1) (low : BitVec 9)
  /-- FRAME.40.48000 (R99): bitrateIndex 2, sampleRateIndex 1. -/
  | frame40_48000 (bit16 : BitVec 1) (padding : BitVec 1) (low : BitVec 9)
  /-- FRAME.40.32000 (R99): bitrateIndex 2, sampleRateIndex 2. -/
  | frame40_32000 (bit16 : BitVec 1) (padding : BitVec 1) (low : BitVec 9)
  /-- FRAME.48.44100 (R99): bitrateIndex 3, sampleRateIndex 0. -/
  | frame48_44100 (bit16 : BitVec 1) (padding : BitVec 1) (low : BitVec 9)
  /-- FRAME.48.48000 (R99): bitrateIndex 3, sampleRateIndex 1. -/
  | frame48_48000 (bit16 : BitVec 1) (padding : BitVec 1) (low : BitVec 9)
  /-- FRAME.48.32000 (R99): bitrateIndex 3, sampleRateIndex 2. -/
  | frame48_32000 (bit16 : BitVec 1) (padding : BitVec 1) (low : BitVec 9)
  /-- FRAME.56.44100 (R99): bitrateIndex 4, sampleRateIndex 0. -/
  | frame56_44100 (bit16 : BitVec 1) (padding : BitVec 1) (low : BitVec 9)
  /-- FRAME.56.48000 (R99): bitrateIndex 4, sampleRateIndex 1. -/
  | frame56_48000 (bit16 : BitVec 1) (padding : BitVec 1) (low : BitVec 9)
  /-- FRAME.56.32000 (R99): bitrateIndex 4, sampleRateIndex 2. -/
  | frame56_32000 (bit16 : BitVec 1) (padding : BitVec 1) (low : BitVec 9)
  /-- FRAME.64.44100 (R99): bitrateIndex 5, sampleRateIndex 0. -/
  | frame64_44100 (bit16 : BitVec 1) (padding : BitVec 1) (low : BitVec 9)
  /-- FRAME.64.48000 (R99): bitrateIndex 5, sampleRateIndex 1. -/
  | frame64_48000 (bit16 : BitVec 1) (padding : BitVec 1) (low : BitVec 9)
  /-- FRAME.64.32000 (R99): bitrateIndex 5, sampleRateIndex 2. -/
  | frame64_32000 (bit16 : BitVec 1) (padding : BitVec 1) (low : BitVec 9)
  /-- FRAME.80.44100 (R99): bitrateIndex 6, sampleRateIndex 0. -/
  | frame80_44100 (bit16 : BitVec 1) (padding : BitVec 1) (low : BitVec 9)
  /-- FRAME.80.48000 (R99): bitrateIndex 6, sampleRateIndex 1. -/
  | frame80_48000 (bit16 : BitVec 1) (padding : BitVec 1) (low : BitVec 9)
  /-- FRAME.80.32000 (R99): bitrateIndex 6, sampleRateIndex 2. -/
  | frame80_32000 (bit16 : BitVec 1) (padding : BitVec 1) (low : BitVec 9)
  /-- FRAME.96.44100 (R99): bitrateIndex 7, sampleRateIndex 0. -/
  | frame96_44100 (bit16 : BitVec 1) (padding : BitVec 1) (low : BitVec 9)
  /-- FRAME.96.48000 (R99): bitrateIndex 7, sampleRateIndex 1. -/
  | frame96_48000 (bit16 : BitVec 1) (padding : BitVec 1) (low : BitVec 9)
  /-- FRAME.96.32000 (R99): bitrateIndex 7, sampleRateIndex 2. -/
  | frame96_32000 (bit16 : BitVec 1) (padding : BitVec 1) (low : BitVec 9)
  /-- FRAME.112.44100 (R99): bitrateIndex 8, sampleRateIndex 0. -/
  | frame112_44100 (bit16 : BitVec 1) (padding : BitVec 1) (low : BitVec 9)
  /-- FRAME.112.48000 (R99): bitrateIndex 8, sampleRateIndex 1. -/
  | frame112_48000 (bit16 : BitVec 1) (padding : BitVec 1) (low : BitVec 9)
  /-- FRAME.112.32000 (R99): bitrateIndex 8, sampleRateIndex 2. -/
  | frame112_32000 (bit16 : BitVec 1) (padding : BitVec 1) (low : BitVec 9)
  /-- FRAME.128.44100 (R99): bitrateIndex 9, sampleRateIndex 0. -/
  | frame128_44100 (bit16 : BitVec 1) (padding : BitVec 1) (low : BitVec 9)
  /-- FRAME.128.48000 (R99): bitrateIndex 9, sampleRateIndex 1. -/
  | frame128_48000 (bit16 : BitVec 1) (padding : BitVec 1) (low : BitVec 9)
  /-- FRAME.128.32000 (R99): bitrateIndex 9, sampleRateIndex 2. -/
  | frame128_32000 (bit16 : BitVec 1) (padding : BitVec 1) (low : BitVec 9)
  /-- FRAME.160.44100 (R99): bitrateIndex 10, sampleRateIndex 0. -/
  | frame160_44100 (bit16 : BitVec 1) (padding : BitVec 1) (low : BitVec 9)
  /-- FRAME.160.48000 (R99): bitrateIndex 10, sampleRateIndex 1. -/
  | frame160_48000 (bit16 : BitVec 1) (padding : BitVec 1) (low : BitVec 9)
  /-- FRAME.160.32000 (R99): bitrateIndex 10, sampleRateIndex 2. -/
  | frame160_32000 (bit16 : BitVec 1) (padding : BitVec 1) (low : BitVec 9)
  /-- FRAME.192.44100 (R99): bitrateIndex 11, sampleRateIndex 0. -/
  | frame192_44100 (bit16 : BitVec 1) (padding : BitVec 1) (low : BitVec 9)
  /-- FRAME.192.48000 (R99): bitrateIndex 11, sampleRateIndex 1. -/
  | frame192_48000 (bit16 : BitVec 1) (padding : BitVec 1) (low : BitVec 9)
  /-- FRAME.192.32000 (R99): bitrateIndex 11, sampleRateIndex 2. -/
  | frame192_32000 (bit16 : BitVec 1) (padding : BitVec 1) (low : BitVec 9)
  /-- FRAME.224.44100 (R99): bitrateIndex 12, sampleRateIndex 0. -/
  | frame224_44100 (bit16 : BitVec 1) (padding : BitVec 1) (low : BitVec 9)
  /-- FRAME.224.48000 (R99): bitrateIndex 12, sampleRateIndex 1. -/
  | frame224_48000 (bit16 : BitVec 1) (padding : BitVec 1) (low : BitVec 9)
  /-- FRAME.224.32000 (R99): bitrateIndex 12, sampleRateIndex 2. -/
  | frame224_32000 (bit16 : BitVec 1) (padding : BitVec 1) (low : BitVec 9)
  /-- FRAME.256.44100 (R99): bitrateIndex 13, sampleRateIndex 0. -/
  | frame256_44100 (bit16 : BitVec 1) (padding : BitVec 1) (low : BitVec 9)
  /-- FRAME.256.48000 (R99): bitrateIndex 13, sampleRateIndex 1. -/
  | frame256_48000 (bit16 : BitVec 1) (padding : BitVec 1) (low : BitVec 9)
  /-- FRAME.256.32000 (R99): bitrateIndex 13, sampleRateIndex 2. -/
  | frame256_32000 (bit16 : BitVec 1) (padding : BitVec 1) (low : BitVec 9)
  /-- FRAME.320.44100 (R99): bitrateIndex 14, sampleRateIndex 0. -/
  | frame320_44100 (bit16 : BitVec 1) (padding : BitVec 1) (low : BitVec 9)
  /-- FRAME.320.48000 (R99): bitrateIndex 14, sampleRateIndex 1. -/
  | frame320_48000 (bit16 : BitVec 1) (padding : BitVec 1) (low : BitVec 9)
  /-- FRAME.320.32000 (R99): bitrateIndex 14, sampleRateIndex 2. -/
  | frame320_32000 (bit16 : BitVec 1) (padding : BitVec 1) (low : BitVec 9)
  /-- NOSYNC (R97): a window whose sync word is not all ones. -/
  | nosync (fields : FormatH)
deriving DecidableEq, Repr

end Sys2Proof
end

