-- ==== Sys2Proof/WellFormed.lean ====
section
/-! DEFINITION. Which instructions stand for a word of their row: a NOSYNC window has no sync pattern, a REJECT.SR window has a
usable bitrate index (opcode_table.json: the REJECT.BR rows come first), a NOTAG header has no marker (30_encoding.md R51, R54). -/

namespace Sys2Proof

/-- The instruction's operands are such that the opcode table gives its word this row. -/
def Instr.wellFormed : Instr → Bool
  | .launchTag _ _ _ _ _ _ => true
  | .launchNotag header => match header with | none => true | some t => t.extractLsb' 56 24 != 0x494433#24
  | .endScan => true
  | .rejectVer0 _ _ _ _ _ _ => true
  | .rejectVer1 _ _ _ _ _ _ => true
  | .rejectVer2 _ _ _ _ _ _ => true
  | .rejectLay0 _ _ _ _ _ => true
  | .rejectLay2 _ _ _ _ _ => true
  | .rejectLay3 _ _ _ _ _ => true
  | .rejectBr0 _ _ _ _ => true
  | .rejectBr15 _ _ _ _ => true
  | .rejectSr3 _ bitrateIndex _ _ => bitrateIndex != 0#4 && bitrateIndex != 15#4
  | .frame32_44100 _ _ _ => true
  | .frame32_48000 _ _ _ => true
  | .frame32_32000 _ _ _ => true
  | .frame40_44100 _ _ _ => true
  | .frame40_48000 _ _ _ => true
  | .frame40_32000 _ _ _ => true
  | .frame48_44100 _ _ _ => true
  | .frame48_48000 _ _ _ => true
  | .frame48_32000 _ _ _ => true
  | .frame56_44100 _ _ _ => true
  | .frame56_48000 _ _ _ => true
  | .frame56_32000 _ _ _ => true
  | .frame64_44100 _ _ _ => true
  | .frame64_48000 _ _ _ => true
  | .frame64_32000 _ _ _ => true
  | .frame80_44100 _ _ _ => true
  | .frame80_48000 _ _ _ => true
  | .frame80_32000 _ _ _ => true
  | .frame96_44100 _ _ _ => true
  | .frame96_48000 _ _ _ => true
  | .frame96_32000 _ _ _ => true
  | .frame112_44100 _ _ _ => true
  | .frame112_48000 _ _ _ => true
  | .frame112_32000 _ _ _ => true
  | .frame128_44100 _ _ _ => true
  | .frame128_48000 _ _ _ => true
  | .frame128_32000 _ _ _ => true
  | .frame160_44100 _ _ _ => true
  | .frame160_48000 _ _ _ => true
  | .frame160_32000 _ _ _ => true
  | .frame192_44100 _ _ _ => true
  | .frame192_48000 _ _ _ => true
  | .frame192_32000 _ _ _ => true
  | .frame224_44100 _ _ _ => true
  | .frame224_48000 _ _ _ => true
  | .frame224_32000 _ _ _ => true
  | .frame256_44100 _ _ _ => true
  | .frame256_48000 _ _ _ => true
  | .frame256_32000 _ _ _ => true
  | .frame320_44100 _ _ _ => true
  | .frame320_48000 _ _ _ => true
  | .frame320_32000 _ _ _ => true
  | .nosync fields => fields.syncWord != 0x7FF#11

end Sys2Proof
end

