-- ==== Sys2Proof/Decode.lean ====
section
/-! DEFINITION. From bytes to instructions and back. Fields are split out here, once (42_header_decode.md R77, 30_encoding.md R46 to
R50); the class tests follow 30_encoding.md R51 in its order; every window and every tag header has a class, so the
decoder of words is total (R53) and the decoder of byte lists rejects only a list of the wrong length, by name. -/

namespace Sys2Proof

/-! ### Byte order -/

/-- The natural number a list of bytes spells big-endian (00_scope.md R8, 20_memory.md R32). -/
def beNat : List Byte → Nat
  | [] => 0
  | b :: bs => 256 ^ bs.length * b.toNat + beNat bs

/-- The `n` bytes of a natural number, most significant first (20_memory.md R32). -/
def natToBytes : Nat → Nat → List Byte
  | 0, _ => []
  | n + 1, v => BitVec.ofNat 8 (v / 256 ^ n) :: natToBytes n v

/-! ### Fields -/

/-- HDRDEC: the fields of a window, each the shift and mask of 42_header_decode.md R77, and the ten bits R46 leaves unnamed. -/
def splitH (w : Window) : FormatH where
  syncWord := w.extractLsb' 21 11
  mpegVersion := w.extractLsb' 19 2
  layer := w.extractLsb' 17 2
  bit16 := w.extractLsb' 16 1
  bitrateIndex := w.extractLsb' 12 4
  sampleRateIndex := w.extractLsb' 10 2
  padding := w.extractLsb' 9 1
  low := w.extractLsb' 0 9

/-- The window with the given fields, each at its place of 30_encoding.md R46. -/
def joinH (f : FormatH) : Window :=
  BitVec.ofNat 32 (0x200000 * f.syncWord.toNat + 0x80000 * f.mpegVersion.toNat + 0x20000 * f.layer.toNat + 0x10000 * f.bit16.toNat +
    0x1000 * f.bitrateIndex.toNat + 0x400 * f.sampleRateIndex.toNat + 0x200 * f.padding.toNat + f.low.toNat)

/-- The fields of a tag header (30_encoding.md R49). -/
def splitT (t : TagHeader) : FormatT where
  marker := t.extractLsb' 56 24
  version := t.extractLsb' 40 16
  flags := t.extractLsb' 32 8
  size0 := t.extractLsb' 24 8
  size1 := t.extractLsb' 16 8
  size2 := t.extractLsb' 8 8
  size3 := t.extractLsb' 0 8

/-- The tag header with the given fields (30_encoding.md R49). -/
def joinT (f : FormatT) : TagHeader :=
  BitVec.ofNat 80 (0x100000000000000 * f.marker.toNat + 0x10000000000 * f.version.toNat + 0x100000000 * f.flags.toNat +
    0x1000000 * f.size0.toNat + 0x10000 * f.size1.toNat + 0x100 * f.size2.toNat + f.size3.toNat)

/-! ### Classes -/

/-- The FRAME rows of sampleRateIndex 0, 44100 Hz (30_encoding.md R52; 43_header_validate_framesize.md R91). The last arm
stands for bitrate indices that no FRAME row has; `classifyH` never asks for them. -/
def frameRow44100 (bitrateIndex : BitVec 4) (bit16 padding : BitVec 1) (low : BitVec 9) : Instr :=
  match bitrateIndex.toNat with
  | 1 => .frame32_44100 bit16 padding low
  | 2 => .frame40_44100 bit16 padding low
  | 3 => .frame48_44100 bit16 padding low
  | 4 => .frame56_44100 bit16 padding low
  | 5 => .frame64_44100 bit16 padding low
  | 6 => .frame80_44100 bit16 padding low
  | 7 => .frame96_44100 bit16 padding low
  | 8 => .frame112_44100 bit16 padding low
  | 9 => .frame128_44100 bit16 padding low
  | 10 => .frame160_44100 bit16 padding low
  | 11 => .frame192_44100 bit16 padding low
  | 12 => .frame224_44100 bit16 padding low
  | 13 => .frame256_44100 bit16 padding low
  | 14 => .frame320_44100 bit16 padding low
  | _ => if bitrateIndex = 0#4 then .rejectBr0 bit16 0#2 padding low else .rejectBr15 bit16 0#2 padding low

/-- The FRAME rows of sampleRateIndex 1, 48000 Hz (30_encoding.md R52; 43_header_validate_framesize.md R91). The last arm
stands for bitrate indices that no FRAME row has; `classifyH` never asks for them. -/
def frameRow48000 (bitrateIndex : BitVec 4) (bit16 padding : BitVec 1) (low : BitVec 9) : Instr :=
  match bitrateIndex.toNat with
  | 1 => .frame32_48000 bit16 padding low
  | 2 => .frame40_48000 bit16 padding low
  | 3 => .frame48_48000 bit16 padding low
  | 4 => .frame56_48000 bit16 padding low
  | 5 => .frame64_48000 bit16 padding low
  | 6 => .frame80_48000 bit16 padding low
  | 7 => .frame96_48000 bit16 padding low
  | 8 => .frame112_48000 bit16 padding low
  | 9 => .frame128_48000 bit16 padding low
  | 10 => .frame160_48000 bit16 padding low
  | 11 => .frame192_48000 bit16 padding low
  | 12 => .frame224_48000 bit16 padding low
  | 13 => .frame256_48000 bit16 padding low
  | 14 => .frame320_48000 bit16 padding low
  | _ => if bitrateIndex = 0#4 then .rejectBr0 bit16 1#2 padding low else .rejectBr15 bit16 1#2 padding low

/-- The FRAME rows of sampleRateIndex 2, 32000 Hz (30_encoding.md R52; 43_header_validate_framesize.md R91). The last arm
stands for bitrate indices that no FRAME row has; `classifyH` never asks for them. -/
def frameRow32000 (bitrateIndex : BitVec 4) (bit16 padding : BitVec 1) (low : BitVec 9) : Instr :=
  match bitrateIndex.toNat with
  | 1 => .frame32_32000 bit16 padding low
  | 2 => .frame40_32000 bit16 padding low
  | 3 => .frame48_32000 bit16 padding low
  | 4 => .frame56_32000 bit16 padding low
  | 5 => .frame64_32000 bit16 padding low
  | 6 => .frame80_32000 bit16 padding low
  | 7 => .frame96_32000 bit16 padding low
  | 8 => .frame112_32000 bit16 padding low
  | 9 => .frame128_32000 bit16 padding low
  | 10 => .frame160_32000 bit16 padding low
  | 11 => .frame192_32000 bit16 padding low
  | 12 => .frame224_32000 bit16 padding low
  | 13 => .frame256_32000 bit16 padding low
  | 14 => .frame320_32000 bit16 padding low
  | _ => if bitrateIndex = 0#4 then .rejectBr0 bit16 2#2 padding low else .rejectBr15 bit16 2#2 padding low

/-- The class of a window (30_encoding.md R51; 43_header_validate_framesize.md R87 for the order), by its fields. -/
def classifyH (f : FormatH) : Instr :=
  if f.syncWord ≠ 0x7FF#11 then .nosync f
  else if f.mpegVersion = 0#2 then .rejectVer0 f.layer f.bit16 f.bitrateIndex f.sampleRateIndex f.padding f.low
  else if f.mpegVersion = 1#2 then .rejectVer1 f.layer f.bit16 f.bitrateIndex f.sampleRateIndex f.padding f.low
  else if f.mpegVersion = 2#2 then .rejectVer2 f.layer f.bit16 f.bitrateIndex f.sampleRateIndex f.padding f.low
  else if f.layer = 0#2 then .rejectLay0 f.bit16 f.bitrateIndex f.sampleRateIndex f.padding f.low
  else if f.layer = 2#2 then .rejectLay2 f.bit16 f.bitrateIndex f.sampleRateIndex f.padding f.low
  else if f.layer = 3#2 then .rejectLay3 f.bit16 f.bitrateIndex f.sampleRateIndex f.padding f.low
  else if f.bitrateIndex = 0#4 then .rejectBr0 f.bit16 f.sampleRateIndex f.padding f.low
  else if f.bitrateIndex = 15#4 then .rejectBr15 f.bit16 f.sampleRateIndex f.padding f.low
  else if f.sampleRateIndex = 3#2 then .rejectSr3 f.bit16 f.bitrateIndex f.padding f.low
  else if f.sampleRateIndex = 0#2 then frameRow44100 f.bitrateIndex f.bit16 f.padding f.low
  else if f.sampleRateIndex = 1#2 then frameRow48000 f.bitrateIndex f.bit16 f.padding f.low
  else frameRow32000 f.bitrateIndex f.bit16 f.padding f.low

/-- The instruction of a window: total (30_encoding.md R53 (c)). -/
def decodeWindow (w : Window) : Instr := classifyH (splitH w)

/-- The instruction of a launch (30_encoding.md R54): TAG when 10 bytes are there and the first three are `0x49 0x44 0x33`. -/
def decodeTag : Option TagHeader → Instr
  | none => .launchNotag none
  | some t =>
    if (splitT t).marker = 0x494433#24 then
      .launchTag (splitT t).version (splitT t).flags (splitT t).size0 (splitT t).size1 (splitT t).size2 (splitT t).size3
    else .launchNotag (some t)

/-- Why a list of bytes is no word of a format: its length. -/
inductive DecodeError where
  /-- A window has 4 bytes (R46). -/
  | windowIsFourBytes
  /-- A tag header has 10 bytes, or none is read (R49, R54). -/
  | tagHeaderIsTenBytes
  /-- END reads no byte (R55). -/
  | endHasNoBytes
deriving DecidableEq, Repr

/-- The decoder of byte lists, lowest offset first. -/
def decode (f : Format) (bs : List Byte) : Except DecodeError Instr :=
  match f with
  | .window => if bs.length = 4 then .ok (decodeWindow (BitVec.ofNat 32 (beNat bs))) else .error .windowIsFourBytes
  | .tagHeader =>
    if bs.length = 10 then .ok (decodeTag (some (BitVec.ofNat 80 (beNat bs))))
    else if bs.length = 0 then .ok (decodeTag none) else .error .tagHeaderIsTenBytes
  | .noBytes => if bs.length = 0 then .ok .endScan else .error .endHasNoBytes

/-! ### The encoder -/

/-- The format of an instruction's row (opcode_table.json, key "format"). -/
def Instr.format : Instr → Format
  | .launchTag _ _ _ _ _ _ => .tagHeader
  | .launchNotag _ => .tagHeader
  | .endScan => .noBytes
  | .rejectVer0 _ _ _ _ _ _ => .window
  | .rejectVer1 _ _ _ _ _ _ => .window
  | .rejectVer2 _ _ _ _ _ _ => .window
  | .rejectLay0 _ _ _ _ _ => .window
  | .rejectLay2 _ _ _ _ _ => .window
  | .rejectLay3 _ _ _ _ _ => .window
  | .rejectBr0 _ _ _ _ => .window
  | .rejectBr15 _ _ _ _ => .window
  | .rejectSr3 _ _ _ _ => .window
  | .frame32_44100 _ _ _ => .window
  | .frame32_48000 _ _ _ => .window
  | .frame32_32000 _ _ _ => .window
  | .frame40_44100 _ _ _ => .window
  | .frame40_48000 _ _ _ => .window
  | .frame40_32000 _ _ _ => .window
  | .frame48_44100 _ _ _ => .window
  | .frame48_48000 _ _ _ => .window
  | .frame48_32000 _ _ _ => .window
  | .frame56_44100 _ _ _ => .window
  | .frame56_48000 _ _ _ => .window
  | .frame56_32000 _ _ _ => .window
  | .frame64_44100 _ _ _ => .window
  | .frame64_48000 _ _ _ => .window
  | .frame64_32000 _ _ _ => .window
  | .frame80_44100 _ _ _ => .window
  | .frame80_48000 _ _ _ => .window
  | .frame80_32000 _ _ _ => .window
  | .frame96_44100 _ _ _ => .window
  | .frame96_48000 _ _ _ => .window
  | .frame96_32000 _ _ _ => .window
  | .frame112_44100 _ _ _ => .window
  | .frame112_48000 _ _ _ => .window
  | .frame112_32000 _ _ _ => .window
  | .frame128_44100 _ _ _ => .window
  | .frame128_48000 _ _ _ => .window
  | .frame128_32000 _ _ _ => .window
  | .frame160_44100 _ _ _ => .window
  | .frame160_48000 _ _ _ => .window
  | .frame160_32000 _ _ _ => .window
  | .frame192_44100 _ _ _ => .window
  | .frame192_48000 _ _ _ => .window
  | .frame192_32000 _ _ _ => .window
  | .frame224_44100 _ _ _ => .window
  | .frame224_48000 _ _ _ => .window
  | .frame224_32000 _ _ _ => .window
  | .frame256_44100 _ _ _ => .window
  | .frame256_48000 _ _ _ => .window
  | .frame256_32000 _ _ _ => .window
  | .frame320_44100 _ _ _ => .window
  | .frame320_48000 _ _ _ => .window
  | .frame320_32000 _ _ _ => .window
  | .nosync _ => .window

/-- The bytes of an instruction, lowest offset first: the fixed bits of its row and its operands (30_encoding.md R46, R49, R51). -/
def encode : Instr → List Byte
  | .launchTag version flags size0 size1 size2 size3 => natToBytes 10 (joinT ⟨0x494433#24, version, flags, size0, size1, size2, size3⟩).toNat
  | .launchNotag header => match header with | none => [] | some t => natToBytes 10 t.toNat
  | .endScan => []
  | .rejectVer0 layer bit16 bitrateIndex sampleRateIndex padding low => natToBytes 4 (joinH ⟨0x7FF#11, 0#2, layer, bit16, bitrateIndex, sampleRateIndex, padding, low⟩).toNat
  | .rejectVer1 layer bit16 bitrateIndex sampleRateIndex padding low => natToBytes 4 (joinH ⟨0x7FF#11, 1#2, layer, bit16, bitrateIndex, sampleRateIndex, padding, low⟩).toNat
  | .rejectVer2 layer bit16 bitrateIndex sampleRateIndex padding low => natToBytes 4 (joinH ⟨0x7FF#11, 2#2, layer, bit16, bitrateIndex, sampleRateIndex, padding, low⟩).toNat
  | .rejectLay0 bit16 bitrateIndex sampleRateIndex padding low => natToBytes 4 (joinH ⟨0x7FF#11, 3#2, 0#2, bit16, bitrateIndex, sampleRateIndex, padding, low⟩).toNat
  | .rejectLay2 bit16 bitrateIndex sampleRateIndex padding low => natToBytes 4 (joinH ⟨0x7FF#11, 3#2, 2#2, bit16, bitrateIndex, sampleRateIndex, padding, low⟩).toNat
  | .rejectLay3 bit16 bitrateIndex sampleRateIndex padding low => natToBytes 4 (joinH ⟨0x7FF#11, 3#2, 3#2, bit16, bitrateIndex, sampleRateIndex, padding, low⟩).toNat
  | .rejectBr0 bit16 sampleRateIndex padding low => natToBytes 4 (joinH ⟨0x7FF#11, 3#2, 1#2, bit16, 0#4, sampleRateIndex, padding, low⟩).toNat
  | .rejectBr15 bit16 sampleRateIndex padding low => natToBytes 4 (joinH ⟨0x7FF#11, 3#2, 1#2, bit16, 15#4, sampleRateIndex, padding, low⟩).toNat
  | .rejectSr3 bit16 bitrateIndex padding low => natToBytes 4 (joinH ⟨0x7FF#11, 3#2, 1#2, bit16, bitrateIndex, 3#2, padding, low⟩).toNat
  | .frame32_44100 bit16 padding low => natToBytes 4 (joinH ⟨0x7FF#11, 3#2, 1#2, bit16, 1#4, 0#2, padding, low⟩).toNat
  | .frame32_48000 bit16 padding low => natToBytes 4 (joinH ⟨0x7FF#11, 3#2, 1#2, bit16, 1#4, 1#2, padding, low⟩).toNat
  | .frame32_32000 bit16 padding low => natToBytes 4 (joinH ⟨0x7FF#11, 3#2, 1#2, bit16, 1#4, 2#2, padding, low⟩).toNat
  | .frame40_44100 bit16 padding low => natToBytes 4 (joinH ⟨0x7FF#11, 3#2, 1#2, bit16, 2#4, 0#2, padding, low⟩).toNat
  | .frame40_48000 bit16 padding low => natToBytes 4 (joinH ⟨0x7FF#11, 3#2, 1#2, bit16, 2#4, 1#2, padding, low⟩).toNat
  | .frame40_32000 bit16 padding low => natToBytes 4 (joinH ⟨0x7FF#11, 3#2, 1#2, bit16, 2#4, 2#2, padding, low⟩).toNat
  | .frame48_44100 bit16 padding low => natToBytes 4 (joinH ⟨0x7FF#11, 3#2, 1#2, bit16, 3#4, 0#2, padding, low⟩).toNat
  | .frame48_48000 bit16 padding low => natToBytes 4 (joinH ⟨0x7FF#11, 3#2, 1#2, bit16, 3#4, 1#2, padding, low⟩).toNat
  | .frame48_32000 bit16 padding low => natToBytes 4 (joinH ⟨0x7FF#11, 3#2, 1#2, bit16, 3#4, 2#2, padding, low⟩).toNat
  | .frame56_44100 bit16 padding low => natToBytes 4 (joinH ⟨0x7FF#11, 3#2, 1#2, bit16, 4#4, 0#2, padding, low⟩).toNat
  | .frame56_48000 bit16 padding low => natToBytes 4 (joinH ⟨0x7FF#11, 3#2, 1#2, bit16, 4#4, 1#2, padding, low⟩).toNat
  | .frame56_32000 bit16 padding low => natToBytes 4 (joinH ⟨0x7FF#11, 3#2, 1#2, bit16, 4#4, 2#2, padding, low⟩).toNat
  | .frame64_44100 bit16 padding low => natToBytes 4 (joinH ⟨0x7FF#11, 3#2, 1#2, bit16, 5#4, 0#2, padding, low⟩).toNat
  | .frame64_48000 bit16 padding low => natToBytes 4 (joinH ⟨0x7FF#11, 3#2, 1#2, bit16, 5#4, 1#2, padding, low⟩).toNat
  | .frame64_32000 bit16 padding low => natToBytes 4 (joinH ⟨0x7FF#11, 3#2, 1#2, bit16, 5#4, 2#2, padding, low⟩).toNat
  | .frame80_44100 bit16 padding low => natToBytes 4 (joinH ⟨0x7FF#11, 3#2, 1#2, bit16, 6#4, 0#2, padding, low⟩).toNat
  | .frame80_48000 bit16 padding low => natToBytes 4 (joinH ⟨0x7FF#11, 3#2, 1#2, bit16, 6#4, 1#2, padding, low⟩).toNat
  | .frame80_32000 bit16 padding low => natToBytes 4 (joinH ⟨0x7FF#11, 3#2, 1#2, bit16, 6#4, 2#2, padding, low⟩).toNat
  | .frame96_44100 bit16 padding low => natToBytes 4 (joinH ⟨0x7FF#11, 3#2, 1#2, bit16, 7#4, 0#2, padding, low⟩).toNat
  | .frame96_48000 bit16 padding low => natToBytes 4 (joinH ⟨0x7FF#11, 3#2, 1#2, bit16, 7#4, 1#2, padding, low⟩).toNat
  | .frame96_32000 bit16 padding low => natToBytes 4 (joinH ⟨0x7FF#11, 3#2, 1#2, bit16, 7#4, 2#2, padding, low⟩).toNat
  | .frame112_44100 bit16 padding low => natToBytes 4 (joinH ⟨0x7FF#11, 3#2, 1#2, bit16, 8#4, 0#2, padding, low⟩).toNat
  | .frame112_48000 bit16 padding low => natToBytes 4 (joinH ⟨0x7FF#11, 3#2, 1#2, bit16, 8#4, 1#2, padding, low⟩).toNat
  | .frame112_32000 bit16 padding low => natToBytes 4 (joinH ⟨0x7FF#11, 3#2, 1#2, bit16, 8#4, 2#2, padding, low⟩).toNat
  | .frame128_44100 bit16 padding low => natToBytes 4 (joinH ⟨0x7FF#11, 3#2, 1#2, bit16, 9#4, 0#2, padding, low⟩).toNat
  | .frame128_48000 bit16 padding low => natToBytes 4 (joinH ⟨0x7FF#11, 3#2, 1#2, bit16, 9#4, 1#2, padding, low⟩).toNat
  | .frame128_32000 bit16 padding low => natToBytes 4 (joinH ⟨0x7FF#11, 3#2, 1#2, bit16, 9#4, 2#2, padding, low⟩).toNat
  | .frame160_44100 bit16 padding low => natToBytes 4 (joinH ⟨0x7FF#11, 3#2, 1#2, bit16, 10#4, 0#2, padding, low⟩).toNat
  | .frame160_48000 bit16 padding low => natToBytes 4 (joinH ⟨0x7FF#11, 3#2, 1#2, bit16, 10#4, 1#2, padding, low⟩).toNat
  | .frame160_32000 bit16 padding low => natToBytes 4 (joinH ⟨0x7FF#11, 3#2, 1#2, bit16, 10#4, 2#2, padding, low⟩).toNat
  | .frame192_44100 bit16 padding low => natToBytes 4 (joinH ⟨0x7FF#11, 3#2, 1#2, bit16, 11#4, 0#2, padding, low⟩).toNat
  | .frame192_48000 bit16 padding low => natToBytes 4 (joinH ⟨0x7FF#11, 3#2, 1#2, bit16, 11#4, 1#2, padding, low⟩).toNat
  | .frame192_32000 bit16 padding low => natToBytes 4 (joinH ⟨0x7FF#11, 3#2, 1#2, bit16, 11#4, 2#2, padding, low⟩).toNat
  | .frame224_44100 bit16 padding low => natToBytes 4 (joinH ⟨0x7FF#11, 3#2, 1#2, bit16, 12#4, 0#2, padding, low⟩).toNat
  | .frame224_48000 bit16 padding low => natToBytes 4 (joinH ⟨0x7FF#11, 3#2, 1#2, bit16, 12#4, 1#2, padding, low⟩).toNat
  | .frame224_32000 bit16 padding low => natToBytes 4 (joinH ⟨0x7FF#11, 3#2, 1#2, bit16, 12#4, 2#2, padding, low⟩).toNat
  | .frame256_44100 bit16 padding low => natToBytes 4 (joinH ⟨0x7FF#11, 3#2, 1#2, bit16, 13#4, 0#2, padding, low⟩).toNat
  | .frame256_48000 bit16 padding low => natToBytes 4 (joinH ⟨0x7FF#11, 3#2, 1#2, bit16, 13#4, 1#2, padding, low⟩).toNat
  | .frame256_32000 bit16 padding low => natToBytes 4 (joinH ⟨0x7FF#11, 3#2, 1#2, bit16, 13#4, 2#2, padding, low⟩).toNat
  | .frame320_44100 bit16 padding low => natToBytes 4 (joinH ⟨0x7FF#11, 3#2, 1#2, bit16, 14#4, 0#2, padding, low⟩).toNat
  | .frame320_48000 bit16 padding low => natToBytes 4 (joinH ⟨0x7FF#11, 3#2, 1#2, bit16, 14#4, 1#2, padding, low⟩).toNat
  | .frame320_32000 bit16 padding low => natToBytes 4 (joinH ⟨0x7FF#11, 3#2, 1#2, bit16, 14#4, 2#2, padding, low⟩).toNat
  | .nosync fields => natToBytes 4 (joinH fields).toNat

/-! ### The opcode table, as it stands -/

/-- The mnemonic of an instruction's row. -/
def Instr.mnemonic : Instr → String
  | .launchTag _ _ _ _ _ _ => "LAUNCH.TAG"
  | .launchNotag _ => "LAUNCH.NOTAG"
  | .endScan => "END"
  | .rejectVer0 _ _ _ _ _ _ => "REJECT.VER.0"
  | .rejectVer1 _ _ _ _ _ _ => "REJECT.VER.1"
  | .rejectVer2 _ _ _ _ _ _ => "REJECT.VER.2"
  | .rejectLay0 _ _ _ _ _ => "REJECT.LAY.0"
  | .rejectLay2 _ _ _ _ _ => "REJECT.LAY.2"
  | .rejectLay3 _ _ _ _ _ => "REJECT.LAY.3"
  | .rejectBr0 _ _ _ _ => "REJECT.BR.0"
  | .rejectBr15 _ _ _ _ => "REJECT.BR.15"
  | .rejectSr3 _ _ _ _ => "REJECT.SR.3"
  | .frame32_44100 _ _ _ => "FRAME.32.44100"
  | .frame32_48000 _ _ _ => "FRAME.32.48000"
  | .frame32_32000 _ _ _ => "FRAME.32.32000"
  | .frame40_44100 _ _ _ => "FRAME.40.44100"
  | .frame40_48000 _ _ _ => "FRAME.40.48000"
  | .frame40_32000 _ _ _ => "FRAME.40.32000"
  | .frame48_44100 _ _ _ => "FRAME.48.44100"
  | .frame48_48000 _ _ _ => "FRAME.48.48000"
  | .frame48_32000 _ _ _ => "FRAME.48.32000"
  | .frame56_44100 _ _ _ => "FRAME.56.44100"
  | .frame56_48000 _ _ _ => "FRAME.56.48000"
  | .frame56_32000 _ _ _ => "FRAME.56.32000"
  | .frame64_44100 _ _ _ => "FRAME.64.44100"
  | .frame64_48000 _ _ _ => "FRAME.64.48000"
  | .frame64_32000 _ _ _ => "FRAME.64.32000"
  | .frame80_44100 _ _ _ => "FRAME.80.44100"
  | .frame80_48000 _ _ _ => "FRAME.80.48000"
  | .frame80_32000 _ _ _ => "FRAME.80.32000"
  | .frame96_44100 _ _ _ => "FRAME.96.44100"
  | .frame96_48000 _ _ _ => "FRAME.96.48000"
  | .frame96_32000 _ _ _ => "FRAME.96.32000"
  | .frame112_44100 _ _ _ => "FRAME.112.44100"
  | .frame112_48000 _ _ _ => "FRAME.112.48000"
  | .frame112_32000 _ _ _ => "FRAME.112.32000"
  | .frame128_44100 _ _ _ => "FRAME.128.44100"
  | .frame128_48000 _ _ _ => "FRAME.128.48000"
  | .frame128_32000 _ _ _ => "FRAME.128.32000"
  | .frame160_44100 _ _ _ => "FRAME.160.44100"
  | .frame160_48000 _ _ _ => "FRAME.160.48000"
  | .frame160_32000 _ _ _ => "FRAME.160.32000"
  | .frame192_44100 _ _ _ => "FRAME.192.44100"
  | .frame192_48000 _ _ _ => "FRAME.192.48000"
  | .frame192_32000 _ _ _ => "FRAME.192.32000"
  | .frame224_44100 _ _ _ => "FRAME.224.44100"
  | .frame224_48000 _ _ _ => "FRAME.224.48000"
  | .frame224_32000 _ _ _ => "FRAME.224.32000"
  | .frame256_44100 _ _ _ => "FRAME.256.44100"
  | .frame256_48000 _ _ _ => "FRAME.256.48000"
  | .frame256_32000 _ _ _ => "FRAME.256.32000"
  | .frame320_44100 _ _ _ => "FRAME.320.44100"
  | .frame320_48000 _ _ _ => "FRAME.320.48000"
  | .frame320_32000 _ _ _ => "FRAME.320.32000"
  | .nosync _ => "NOSYNC"

/-- The REJECT rows: mnemonic, match, mask (priorities 2 to 5). -/
def rejectRows : List (String × Window × Window) :=
  [("REJECT.VER.0", 0xffe00000#32, 0xfff80000#32),
   ("REJECT.VER.1", 0xffe80000#32, 0xfff80000#32),
   ("REJECT.VER.2", 0xfff00000#32, 0xfff80000#32),
   ("REJECT.LAY.0", 0xfff80000#32, 0xfffe0000#32),
   ("REJECT.LAY.2", 0xfffc0000#32, 0xfffe0000#32),
   ("REJECT.LAY.3", 0xfffe0000#32, 0xfffe0000#32),
   ("REJECT.BR.0", 0xfffa0000#32, 0xfffef000#32),
   ("REJECT.BR.15", 0xfffaf000#32, 0xfffef000#32),
   ("REJECT.SR.3", 0xfffa0c00#32, 0xfffe0c00#32)]

/-- The FRAME rows of 44100 Hz: mnemonic, match, mask (priority 6). -/
def frameRows44100 : List (String × Window × Window) :=
  [("FRAME.32.44100", 0xfffa1000#32, 0xfffefc00#32),
   ("FRAME.40.44100", 0xfffa2000#32, 0xfffefc00#32),
   ("FRAME.48.44100", 0xfffa3000#32, 0xfffefc00#32),
   ("FRAME.56.44100", 0xfffa4000#32, 0xfffefc00#32),
   ("FRAME.64.44100", 0xfffa5000#32, 0xfffefc00#32),
   ("FRAME.80.44100", 0xfffa6000#32, 0xfffefc00#32),
   ("FRAME.96.44100", 0xfffa7000#32, 0xfffefc00#32),
   ("FRAME.112.44100", 0xfffa8000#32, 0xfffefc00#32),
   ("FRAME.128.44100", 0xfffa9000#32, 0xfffefc00#32),
   ("FRAME.160.44100", 0xfffaa000#32, 0xfffefc00#32),
   ("FRAME.192.44100", 0xfffab000#32, 0xfffefc00#32),
   ("FRAME.224.44100", 0xfffac000#32, 0xfffefc00#32),
   ("FRAME.256.44100", 0xfffad000#32, 0xfffefc00#32),
   ("FRAME.320.44100", 0xfffae000#32, 0xfffefc00#32)]

/-- The FRAME rows of 48000 Hz: mnemonic, match, mask (priority 6). -/
def frameRows48000 : List (String × Window × Window) :=
  [("FRAME.32.48000", 0xfffa1400#32, 0xfffefc00#32),
   ("FRAME.40.48000", 0xfffa2400#32, 0xfffefc00#32),
   ("FRAME.48.48000", 0xfffa3400#32, 0xfffefc00#32),
   ("FRAME.56.48000", 0xfffa4400#32, 0xfffefc00#32),
   ("FRAME.64.48000", 0xfffa5400#32, 0xfffefc00#32),
   ("FRAME.80.48000", 0xfffa6400#32, 0xfffefc00#32),
   ("FRAME.96.48000", 0xfffa7400#32, 0xfffefc00#32),
   ("FRAME.112.48000", 0xfffa8400#32, 0xfffefc00#32),
   ("FRAME.128.48000", 0xfffa9400#32, 0xfffefc00#32),
   ("FRAME.160.48000", 0xfffaa400#32, 0xfffefc00#32),
   ("FRAME.192.48000", 0xfffab400#32, 0xfffefc00#32),
   ("FRAME.224.48000", 0xfffac400#32, 0xfffefc00#32),
   ("FRAME.256.48000", 0xfffad400#32, 0xfffefc00#32),
   ("FRAME.320.48000", 0xfffae400#32, 0xfffefc00#32)]

/-- The FRAME rows of 32000 Hz: mnemonic, match, mask (priority 6). -/
def frameRows32000 : List (String × Window × Window) :=
  [("FRAME.32.32000", 0xfffa1800#32, 0xfffefc00#32),
   ("FRAME.40.32000", 0xfffa2800#32, 0xfffefc00#32),
   ("FRAME.48.32000", 0xfffa3800#32, 0xfffefc00#32),
   ("FRAME.56.32000", 0xfffa4800#32, 0xfffefc00#32),
   ("FRAME.64.32000", 0xfffa5800#32, 0xfffefc00#32),
   ("FRAME.80.32000", 0xfffa6800#32, 0xfffefc00#32),
   ("FRAME.96.32000", 0xfffa7800#32, 0xfffefc00#32),
   ("FRAME.112.32000", 0xfffa8800#32, 0xfffefc00#32),
   ("FRAME.128.32000", 0xfffa9800#32, 0xfffefc00#32),
   ("FRAME.160.32000", 0xfffaa800#32, 0xfffefc00#32),
   ("FRAME.192.32000", 0xfffab800#32, 0xfffefc00#32),
   ("FRAME.224.32000", 0xfffac800#32, 0xfffefc00#32),
   ("FRAME.256.32000", 0xfffad800#32, 0xfffefc00#32),
   ("FRAME.320.32000", 0xfffae800#32, 0xfffefc00#32)]

/-- The 52 rows of format H in the order of their priority: mnemonic, match, mask (30_encoding.md R51; NOSYNC last, mask 0). -/
def windowRows : List (String × Window × Window) :=
  rejectRows ++ frameRows44100 ++ frameRows48000 ++ frameRows32000 ++ [("NOSYNC", 0#32, 0#32)]

/-- The first row of the table whose match and mask a window meets. -/
def firstRow (w : Window) : Option String :=
  (windowRows.find? fun row => w &&& row.2.2 == row.2.1).map (·.1)

/-! ### The host's word -/

/-- The instruction of a word of the opcode table. The table writes a format H word as one 32-bit number and a format T word
as one 80-bit number (keys "match" and "encoding"), and both are stored big-endian; END has
no bits. Every format H row has 32 bits; LAUNCH.NOTAG, written "0x0", has no bit of its ten bytes fixed and may count as 8 bits
(log entry 5). -/
def decodeTableWord (nbits w : Nat) : Option Instr :=
  let read (f : Format) (n : Nat) : Option Instr := match decode f (natToBytes n w) with | .ok i => some i | .error _ => none
  if nbits = 0 then read .noBytes 0
  else if 8 < nbits ∧ nbits ≤ 32 then read .window 4
  else if nbits ≤ 80 then read .tagHeader 10
  else none

end Sys2Proof
end

