-- ==== Sys2Proof/Config.lean ====
section
/-! DEFINITION. The parameters of 00_scope.md R6. -/

namespace Sys2Proof.Config

/-- `W`, the width of CUR, CNT and LEN: R6's default (log entry 2). -/
def regWidth : Nat := 32

/-- `LEN_MAX = 2^W - 2881` for a register width `w` (R6, 90_conflicts.md C7). -/
def lenMaxOf (w : Nat) : Nat := 2 ^ w - 2881

/-- `LEN_MAX` of this configuration: 4294964415 (R6). -/
def lenMax : Nat := lenMaxOf regWidth

/-- The smallest width R6 allows: `W >= 29`. -/
def minWidth : Nat := 29

end Sys2Proof.Config
end

