-- ==== Sys2Proof/Machine/State.lean ====
section
/-! DEFINITION. The state of the FrameScanner (10_state.md R10), the host's signals and coming actions, and the reasons a step can stop. -/

namespace Sys2Proof.Machine

/-- The memory behind the port: (offset, byte) cells, offsets strictly rising. An offset that is not listed has no value:
the memory cannot answer it (20_memory.md R44; log entry 1). -/
abbrev Memory := List Host.Cell

/-- ST, the state of the driving loop (10_state.md R14). -/
inductive LoopState where
  /-- Encoded 0. -/
  | done
  /-- Encoded 1. -/
  | scanning
deriving DecidableEq, Repr

/-- One action of the host or of the scheduler between host and block (70_reset_and_hazards.md R128; log entry 4). -/
inductive HostAction where
  /-- The host does nothing and the block takes its step. -/
  | wait
  /-- The host drives its three inputs (10_state.md R20) until it drives them again (H1, H6). -/
  | drive (rst start : Bool) (len : Nat)
  /-- The host writes one byte of the buffer memory (H2, H5). -/
  | store (offset : Nat) (byte : Byte)
  /-- The host replaces the buffer memory by a buffer that starts at offset 0 (H5). -/
  | place (bytes : List Byte)
deriving DecidableEq, Repr

/-- The state. `buf`, `len`, `cur`, `cnt`, `st` are the tuple of R10; `rst`, `start`, `lenIn` are the levels of the host's inputs
(R20); `host` is the model's own: what the host will do next (log entry 4). -/
structure State where
  /-- BUF with the memory behind the port (R16). -/
  buf : Memory
  /-- LEN (R13). -/
  len : Nat
  /-- CUR, the cursor (R11). -/
  cur : Nat
  /-- CNT, the frame count (R12). -/
  cnt : Nat
  /-- ST (R14). -/
  st : LoopState
  /-- The input `rst` (R20). -/
  rst : Bool
  /-- The input `start` (R20). -/
  start : Bool
  /-- The input `len` (R20). -/
  lenIn : Nat
  /-- The host's coming actions, next first. -/
  host : List HostAction
deriving DecidableEq, Repr

/-- The block raises nothing and has no fault output (60_exceptions.md R110): there is no fault. -/
inductive Fault where
deriving DecidableEq, Repr

/-- Why a step has no meaning: the broken host duties of 70_reset_and_hazards.md R129 and an unanswered read. All are safe: the
model stops where the spec gives nothing. -/
inductive Refusal where
  /-- An arm of `exec` without a meaning; raised by no arm of this model. Safe. -/
  | notModelled (mnemonic : String)
  /-- LAUNCH.TAG and LAUNCH.NOTAG: the input `len` is above LEN_MAX (R95 (e), R129; 93 X3). Safe. -/
  | lenBeyondMax
  /-- LAUNCH.TAG and LAUNCH.NOTAG: the input `len` is larger than the memory behind the port (20_memory.md R44, R129; 93 X2). Safe. -/
  | lenBeyondMemory
  /-- A host write while ST is Scanning (R128 H2, R129; 93 X1). Safe. -/
  | bufferWrittenDuringScan
  /-- The window read of a Scanning step is not answered by the memory (93 U5, X5). Safe. -/
  | readUnanswered
deriving DecidableEq, Repr

/-- The three outcomes of a step of this machine. -/
abbrev Result := Host.Outcome State Fault Refusal

/-- After reset (10_state.md R23, 70_reset_and_hazards.md R125): ST = Done, CNT = CUR = LEN = 0. The inputs are deasserted (log entry 3),
no byte is behind the port (log entry 1), and the host has nothing planned (log entry 4). -/
def State.reset : State where
  buf := []
  len := 0
  cur := 0
  cnt := 0
  st := .done
  rst := false
  start := false
  lenIn := 0
  host := []

end Sys2Proof.Machine
end

