-- ==== Sys2Proof/Machine/Ops.lean ====
section
/-! DEFINITION. The named operations over memory and registers. The block only reads memory (20_memory.md R34); the writes here are the
host's. No operation takes an exception: the block has none (60_exceptions.md R110, R116, R117); its reset is here instead. -/

namespace Sys2Proof.Machine

/-! ### The memory behind the port -/

/-- The canonical form: offsets strictly rising. -/
abbrev Memory.wf (m : Memory) : Prop := m.Pairwise (·.1 < ·.1)

/-- The byte at an offset, if the memory has one there. -/
def Memory.read : Memory → Nat → Option Byte
  | [], _ => none
  | (b, v) :: m, a => if b = a then some v else Memory.read m a

/-- The host's write of one byte (R128 H5). -/
def Memory.write : Memory → Nat → Byte → Memory
  | [], a, v => [(a, v)]
  | (b, w) :: m, a, v =>
    if a < b then (a, v) :: (b, w) :: m
    else if a = b then (a, v) :: m
    else (b, w) :: Memory.write m a v

/-- Writes of consecutive bytes. -/
def Memory.writeBytes : Memory → Nat → List Byte → Memory
  | m, _, [] => m
  | m, a, b :: bs => Memory.writeBytes (Memory.write m a b) (a + 1) bs

/-- A buffer whose first byte is at the given offset. -/
def Memory.ofBytes : Nat → List Byte → Memory
  | _, [] => []
  | a, b :: bs => (a, b) :: Memory.ofBytes (a + 1) bs

/-- The end of the run of listed offsets that begins at `k`. -/
def Memory.runEnd : Nat → Memory → Nat
  | k, [] => k
  | k, (a, _) :: m => if a = k then Memory.runEnd (k + 1) m else k

/-- How many bytes are behind the port from offset 0 on: the longest buffer they hold (20_memory.md R44). -/
def Memory.extent (m : Memory) : Nat := Memory.runEnd 0 m

/-! ### Reads of a buffer of a given length -/

/-- `byte[i]`, defined only for `i < len` (00_scope.md R8, 20_memory.md R30). -/
def bufByte (m : Memory) (len i : Nat) : Option Byte := if i < len then Memory.read m i else none

/-- `MemRead(addr, n)`: the bytes at `addr` to `addr + n - 1` as the number they spell big-endian (00_scope.md R8, 20_memory.md R32). -/
def memRead (m : Memory) (len addr : Nat) : Nat → Option Nat
  | 0 => some 0
  | n + 1 =>
    match memRead m len addr n, bufByte m len (addr + n) with
    | some v, some b => some (256 * v + b.toNat)
    | _, _ => none

/-! ### Register updates -/

/-- CUR moves forward (44_driving_loop.md R108); nothing else changes. -/
def State.advance (n : Nat) (s : State) : State := { s with cur := s.cur + n }

/-- One more header accepted: CNT and CUR move together (R99). -/
def State.countFrame (n : Nat) (s : State) : State := { s with cnt := s.cnt + 1, cur := s.cur + n }

/-- ST becomes Done (R96). -/
def State.finish (s : State) : State := { s with st := .done }

/-- The registers at the start of a scan whose cursor is `target` (R95, R26). -/
def State.startScan (target : Nat) (s : State) : State := { s with len := s.lenIn, cnt := 0, cur := target, st := .scanning }

/-- The registers after `rst`; BUF and the inputs are not touched (R23, R125). -/
def State.resetRegs (s : State) : State := { s with len := 0, cur := 0, cnt := 0, st := .done }

/-- The host's memory. -/
def State.setBuf (m : Memory) (s : State) : State := { s with buf := m }

/-- The host's inputs (R20). -/
def State.drive (rst start : Bool) (len : Nat) (s : State) : State := { s with rst := rst, start := start, lenIn := len }

/-- The host's coming actions. -/
def State.setHost (h : List HostAction) (s : State) : State := { s with host := h }

/-! ### Outputs -/

/-- The output `done` (10_state.md R21). -/
def State.doneOut (s : State) : Bool := s.st == .done

/-- The output `count`, CNT at every moment (10_state.md R21). -/
def State.countOut (s : State) : Nat := s.cnt

/-! ### Shared operations of the meanings -/

/-- LAUNCH with the initial cursor `target` (R95): refused where the host breaks its duty on `len` (R129). -/
def launch (target : Nat) (s : State) : Result :=
  if Config.lenMax < s.lenIn then .refused .lenBeyondMax
  else if Memory.extent s.buf < s.lenIn then .refused .lenBeyondMemory
  else .next (s.startScan target)

/-- NOSYNC and REJECT (R97, R98): the cursor moves one byte. -/
def stepOver (s : State) : Result := .next (s.advance 1)

/-- SIZECHK: `0 < frameSize < 2881`, the source's literal bound, not to be tightened (43_header_validate_framesize.md R88). -/
def sizeOk (frameSize : Nat) : Bool := decide (0 < frameSize) && decide (frameSize < 2881)

/-- A header whose indices are usable (R99, with SIZECHK of R88): it is counted, or rejected for its size (R98), which never
happens (R92). -/
def acceptHeader (frameSize : Nat) (s : State) : Result :=
  if sizeOk frameSize then .next (s.countFrame frameSize) else stepOver s

/-- Applies a change of the state to a next state; a stop stays as it is. -/
def onNext (f : State → State) : Result → Result
  | .next s => .next (f s)
  | .fault r => .fault r
  | .refused r => .refused r

end Sys2Proof.Machine
end

