-- ==== Sys2Proof/Machine/Operands.lean ====
section
/-! DEFINITION. What the steps read and compute: the two reads of BUF, the synchsafe decoder, the two lookup tables and the frame-size
calculator (40_tag_skip.md, 42_header_decode.md, 43_header_validate_framesize.md). -/

namespace Sys2Proof.Machine

/-! ### The two reads (20_memory.md R34) -/

/-- The window W = MemRead(CUR, 4) (42_header_decode.md R76). -/
def readWindow (s : State) : Option Window := (memRead s.buf s.len s.cur 4).map (BitVec.ofNat 32)

/-- The tag header T = MemRead(0, 10), read with the length being latched and only if that is at least 10
(40_tag_skip.md R62, 44_driving_loop.md R95 (a)). -/
def readTagHeader (s : State) : Option TagHeader :=
  if 10 ≤ s.lenIn then (memRead s.buf s.lenIn 0 10).map (BitVec.ofNat 80) else none

/-! ### SSAFE -/

/-- SSAFE, the synchsafe decoder: the low 7 bits of each byte, big-endian (40_tag_skip.md R61; 90_conflicts.md C2). -/
def ssafe (b0 b1 b2 b3 : Byte) : Nat :=
  ((b0.toNat &&& 0x7F) <<< 21) ||| ((b1.toNat &&& 0x7F) <<< 14) ||| ((b2.toNat &&& 0x7F) <<< 7) ||| (b3.toNat &&& 0x7F)

/-! ### Lookup tables -/

/-- BRLUT: bitrateIndex to kbps, 0 where the index is reserved (42_header_decode.md R78). -/
def bitrateKbps (index : BitVec 4) : Nat :=
  [0, 32, 40, 48, 56, 64, 80, 96, 112, 128, 160, 192, 224, 256, 320, 0].getD index.toNat 0

/-- SRLUT: sampleRateIndex to Hz, 0 where the index is reserved (42_header_decode.md R79). -/
def sampleRateHz (index : BitVec 2) : Nat :=
  [44100, 48000, 32000, 0].getD index.toNat 0

/-! ### FSIZE -/

/-- FSIZE: the exact product, floor division of the whole product, then the padding byte (43_header_validate_framesize.md R90).
DESIGN CHOICE (log entry 18): for `hz = 0`, outside the domain of R90, the quotient is 0, as Lean divides; R94 gives no output there
and no step uses it. -/
def frameSize (kbps hz padding : Nat) : Nat := 144 * kbps * 1000 / hz + padding

/-- The frame size of a header with the given indices and padding bit (R78, R79, R90). -/
def headerFrameSize (bitrateIndex : BitVec 4) (sampleRateIndex : BitVec 2) (padding : BitVec 1) : Nat :=
  frameSize (bitrateKbps bitrateIndex) (sampleRateHz sampleRateIndex) padding.toNat

end Sys2Proof.Machine
end

