-- ==== Sys2Proof/Machine/Flags.lean ====
section
/-! DEFINITION. The block stores no flag; it has four combinational predicates (10_state.md R17), with the checks they are made of, and the
tag skipper that `tag_present` decides (40_tag_skip.md R63). -/

namespace Sys2Proof.Machine

/-- `at_end`: CUR + 4 > LEN, over the naturals (44_driving_loop.md R96; 90_conflicts.md C6). -/
def atEnd (s : State) : Bool := decide (s.len < s.cur + 4)

/-! ### Tag detection and the tag skipper -/

/-- TAGDET, `tag_present(off)`: at least 10 bytes from `off`, and the marker "ID3" there (40_tag_skip.md R62). -/
def tagPresent (m : Memory) (len off : Nat) : Bool :=
  decide (off + 10 ≤ len) && bufByte m len off == some 0x49#8 && bufByte m len (off + 1) == some 0x44#8 &&
    bufByte m len (off + 2) == some 0x33#8

/-- TAGSKIP (40_tag_skip.md R63): `off + (SSAFE + 10)` past a tag, else `off`. The last arm, a tag whose size bytes the memory lacks,
is met only where the launch is refused (R129). -/
def tagSkip (m : Memory) (len off : Nat) : Nat :=
  if tagPresent m len off then
    match bufByte m len (off + 6), bufByte m len (off + 7), bufByte m len (off + 8), bufByte m len (off + 9) with
    | some b0, some b1, some b2, some b3 => off + (ssafe b0 b1 b2 b3 + 10)
    | _, _, _, _ => off
  else off

/-! ### Sync detection -/

/-- SYNCDET on two bytes (41_sync_detect.md R70). -/
def syncDet (b0 b1 : Byte) : Bool := b0 == 0xFF#8 && (b1 &&& 0xE0#8) == 0xE0#8

/-- `sync_hit` at CUR (41_sync_detect.md R70). DESIGN CHOICE (log entry 15): it is false where one of the two bytes is not in the
buffer, a case for which R17, R70 and R71 give no value; no step asks for it there. -/
def syncHit (s : State) : Bool :=
  match bufByte s.buf s.len s.cur, bufByte s.buf s.len (s.cur + 1) with
  | some b0, some b1 => syncDet b0 b1
  | _, _ => false

/-! ### The validator -/

/-- The reasons of 60_exceptions.md R111, in the order they are tested. None is recorded anywhere. -/
inductive RejectReason where
  /-- mpegVersion is not 0b11. -/
  | version
  /-- layer is not 0b01. -/
  | layer
  /-- The bitrate index is reserved. -/
  | bitrate
  /-- The sample-rate index is reserved. -/
  | sampleRate
  /-- The frame size is out of bounds; no window selects it (43_header_validate_framesize.md R92). -/
  | size
deriving DecidableEq, Repr

/-- The verdict of the validator (43_header_validate_framesize.md R89). -/
inductive Verdict where
  /-- The header is accepted with its frame size. -/
  | accept (frameSize : Nat)
  /-- The header is rejected. -/
  | reject (reason : RejectReason)
deriving DecidableEq, Repr

/-- VLCHK (R85). -/
def versionLayerOk (f : FormatH) : Bool := f.mpegVersion == 3#2 && f.layer == 1#2

/-- RSVCHK (R86). -/
def indicesOk (f : FormatH) : Bool := bitrateKbps f.bitrateIndex != 0 && sampleRateHz f.sampleRateIndex != 0

/-- VALIDATE (R89), its tests in the order of R87. -/
def validate (w : Window) : Verdict :=
  if (splitH w).mpegVersion ≠ 3#2 then .reject .version
  else if (splitH w).layer ≠ 1#2 then .reject .layer
  else if bitrateKbps (splitH w).bitrateIndex = 0 then .reject .bitrate
  else if sampleRateHz (splitH w).sampleRateIndex = 0 then .reject .sampleRate
  else if sizeOk (headerFrameSize (splitH w).bitrateIndex (splitH w).sampleRateIndex (splitH w).padding) then
    .accept (headerFrameSize (splitH w).bitrateIndex (splitH w).sampleRateIndex (splitH w).padding)
  else .reject .size

/-- `hdr_valid`: the verdict is an acceptance (R89). -/
def hdrValid (w : Window) : Bool :=
  match validate w with
  | .accept _ => true
  | .reject _ => false

/-- The reason a REJECT row stands for (30_encoding.md R51, 60_exceptions.md R111). -/
def rejectReason : Instr → Option RejectReason
  | .launchTag _ _ _ _ _ _ => none
  | .launchNotag _ => none
  | .endScan => none
  | .rejectVer0 _ _ _ _ _ _ => some .version
  | .rejectVer1 _ _ _ _ _ _ => some .version
  | .rejectVer2 _ _ _ _ _ _ => some .version
  | .rejectLay0 _ _ _ _ _ => some .layer
  | .rejectLay2 _ _ _ _ _ => some .layer
  | .rejectLay3 _ _ _ _ _ => some .layer
  | .rejectBr0 _ _ _ _ => some .bitrate
  | .rejectBr15 _ _ _ _ => some .bitrate
  | .rejectSr3 _ _ _ _ => some .sampleRate
  | .frame32_44100 _ _ _ => none
  | .frame32_48000 _ _ _ => none
  | .frame32_32000 _ _ _ => none
  | .frame40_44100 _ _ _ => none
  | .frame40_48000 _ _ _ => none
  | .frame40_32000 _ _ _ => none
  | .frame48_44100 _ _ _ => none
  | .frame48_48000 _ _ _ => none
  | .frame48_32000 _ _ _ => none
  | .frame56_44100 _ _ _ => none
  | .frame56_48000 _ _ _ => none
  | .frame56_32000 _ _ _ => none
  | .frame64_44100 _ _ _ => none
  | .frame64_48000 _ _ _ => none
  | .frame64_32000 _ _ _ => none
  | .frame80_44100 _ _ _ => none
  | .frame80_48000 _ _ _ => none
  | .frame80_32000 _ _ _ => none
  | .frame96_44100 _ _ _ => none
  | .frame96_48000 _ _ _ => none
  | .frame96_32000 _ _ _ => none
  | .frame112_44100 _ _ _ => none
  | .frame112_48000 _ _ _ => none
  | .frame112_32000 _ _ _ => none
  | .frame128_44100 _ _ _ => none
  | .frame128_48000 _ _ _ => none
  | .frame128_32000 _ _ _ => none
  | .frame160_44100 _ _ _ => none
  | .frame160_48000 _ _ _ => none
  | .frame160_32000 _ _ _ => none
  | .frame192_44100 _ _ _ => none
  | .frame192_48000 _ _ _ => none
  | .frame192_32000 _ _ _ => none
  | .frame224_44100 _ _ _ => none
  | .frame224_48000 _ _ _ => none
  | .frame224_32000 _ _ _ => none
  | .frame256_44100 _ _ _ => none
  | .frame256_48000 _ _ _ => none
  | .frame256_32000 _ _ _ => none
  | .frame320_44100 _ _ _ => none
  | .frame320_48000 _ _ _ => none
  | .frame320_32000 _ _ _ => none
  | .nosync _ => none

end Sys2Proof.Machine
end

