-- ==== Sys2Proof/Machine/Frame.lean ====
section
/-! DEFINITION. FRAME (44_driving_loop.md R99), one row for each pair of usable indices (30_encoding.md R52): CNT + 1, CUR + frameSize, the
size looked up and calculated from the row's indices and the padding bit (42_header_decode.md R78, R79; 43 R88, R90). -/

namespace Sys2Proof.Machine

/-- FRAME.32.44100. -/
def execFrame32_44100 (padding : BitVec 1) (s : State) : Result :=
  acceptHeader (headerFrameSize 1#4 0#2 padding) s

/-- FRAME.32.48000. -/
def execFrame32_48000 (padding : BitVec 1) (s : State) : Result :=
  acceptHeader (headerFrameSize 1#4 1#2 padding) s

/-- FRAME.32.32000. -/
def execFrame32_32000 (padding : BitVec 1) (s : State) : Result :=
  acceptHeader (headerFrameSize 1#4 2#2 padding) s

/-- FRAME.40.44100. -/
def execFrame40_44100 (padding : BitVec 1) (s : State) : Result :=
  acceptHeader (headerFrameSize 2#4 0#2 padding) s

/-- FRAME.40.48000. -/
def execFrame40_48000 (padding : BitVec 1) (s : State) : Result :=
  acceptHeader (headerFrameSize 2#4 1#2 padding) s

/-- FRAME.40.32000. -/
def execFrame40_32000 (padding : BitVec 1) (s : State) : Result :=
  acceptHeader (headerFrameSize 2#4 2#2 padding) s

/-- FRAME.48.44100. -/
def execFrame48_44100 (padding : BitVec 1) (s : State) : Result :=
  acceptHeader (headerFrameSize 3#4 0#2 padding) s

/-- FRAME.48.48000. -/
def execFrame48_48000 (padding : BitVec 1) (s : State) : Result :=
  acceptHeader (headerFrameSize 3#4 1#2 padding) s

/-- FRAME.48.32000. -/
def execFrame48_32000 (padding : BitVec 1) (s : State) : Result :=
  acceptHeader (headerFrameSize 3#4 2#2 padding) s

/-- FRAME.56.44100. -/
def execFrame56_44100 (padding : BitVec 1) (s : State) : Result :=
  acceptHeader (headerFrameSize 4#4 0#2 padding) s

/-- FRAME.56.48000. -/
def execFrame56_48000 (padding : BitVec 1) (s : State) : Result :=
  acceptHeader (headerFrameSize 4#4 1#2 padding) s

/-- FRAME.56.32000. -/
def execFrame56_32000 (padding : BitVec 1) (s : State) : Result :=
  acceptHeader (headerFrameSize 4#4 2#2 padding) s

/-- FRAME.64.44100. -/
def execFrame64_44100 (padding : BitVec 1) (s : State) : Result :=
  acceptHeader (headerFrameSize 5#4 0#2 padding) s

/-- FRAME.64.48000. -/
def execFrame64_48000 (padding : BitVec 1) (s : State) : Result :=
  acceptHeader (headerFrameSize 5#4 1#2 padding) s

/-- FRAME.64.32000. -/
def execFrame64_32000 (padding : BitVec 1) (s : State) : Result :=
  acceptHeader (headerFrameSize 5#4 2#2 padding) s

/-- FRAME.80.44100. -/
def execFrame80_44100 (padding : BitVec 1) (s : State) : Result :=
  acceptHeader (headerFrameSize 6#4 0#2 padding) s

/-- FRAME.80.48000. -/
def execFrame80_48000 (padding : BitVec 1) (s : State) : Result :=
  acceptHeader (headerFrameSize 6#4 1#2 padding) s

/-- FRAME.80.32000. -/
def execFrame80_32000 (padding : BitVec 1) (s : State) : Result :=
  acceptHeader (headerFrameSize 6#4 2#2 padding) s

/-- FRAME.96.44100. -/
def execFrame96_44100 (padding : BitVec 1) (s : State) : Result :=
  acceptHeader (headerFrameSize 7#4 0#2 padding) s

/-- FRAME.96.48000. -/
def execFrame96_48000 (padding : BitVec 1) (s : State) : Result :=
  acceptHeader (headerFrameSize 7#4 1#2 padding) s

/-- FRAME.96.32000. -/
def execFrame96_32000 (padding : BitVec 1) (s : State) : Result :=
  acceptHeader (headerFrameSize 7#4 2#2 padding) s

/-- FRAME.112.44100. -/
def execFrame112_44100 (padding : BitVec 1) (s : State) : Result :=
  acceptHeader (headerFrameSize 8#4 0#2 padding) s

/-- FRAME.112.48000. -/
def execFrame112_48000 (padding : BitVec 1) (s : State) : Result :=
  acceptHeader (headerFrameSize 8#4 1#2 padding) s

/-- FRAME.112.32000. -/
def execFrame112_32000 (padding : BitVec 1) (s : State) : Result :=
  acceptHeader (headerFrameSize 8#4 2#2 padding) s

/-- FRAME.128.44100. -/
def execFrame128_44100 (padding : BitVec 1) (s : State) : Result :=
  acceptHeader (headerFrameSize 9#4 0#2 padding) s

/-- FRAME.128.48000. -/
def execFrame128_48000 (padding : BitVec 1) (s : State) : Result :=
  acceptHeader (headerFrameSize 9#4 1#2 padding) s

/-- FRAME.128.32000. -/
def execFrame128_32000 (padding : BitVec 1) (s : State) : Result :=
  acceptHeader (headerFrameSize 9#4 2#2 padding) s

/-- FRAME.160.44100. -/
def execFrame160_44100 (padding : BitVec 1) (s : State) : Result :=
  acceptHeader (headerFrameSize 10#4 0#2 padding) s

/-- FRAME.160.48000. -/
def execFrame160_48000 (padding : BitVec 1) (s : State) : Result :=
  acceptHeader (headerFrameSize 10#4 1#2 padding) s

/-- FRAME.160.32000. -/
def execFrame160_32000 (padding : BitVec 1) (s : State) : Result :=
  acceptHeader (headerFrameSize 10#4 2#2 padding) s

/-- FRAME.192.44100. -/
def execFrame192_44100 (padding : BitVec 1) (s : State) : Result :=
  acceptHeader (headerFrameSize 11#4 0#2 padding) s

/-- FRAME.192.48000. -/
def execFrame192_48000 (padding : BitVec 1) (s : State) : Result :=
  acceptHeader (headerFrameSize 11#4 1#2 padding) s

/-- FRAME.192.32000. -/
def execFrame192_32000 (padding : BitVec 1) (s : State) : Result :=
  acceptHeader (headerFrameSize 11#4 2#2 padding) s

/-- FRAME.224.44100. -/
def execFrame224_44100 (padding : BitVec 1) (s : State) : Result :=
  acceptHeader (headerFrameSize 12#4 0#2 padding) s

/-- FRAME.224.48000. -/
def execFrame224_48000 (padding : BitVec 1) (s : State) : Result :=
  acceptHeader (headerFrameSize 12#4 1#2 padding) s

/-- FRAME.224.32000. -/
def execFrame224_32000 (padding : BitVec 1) (s : State) : Result :=
  acceptHeader (headerFrameSize 12#4 2#2 padding) s

/-- FRAME.256.44100. -/
def execFrame256_44100 (padding : BitVec 1) (s : State) : Result :=
  acceptHeader (headerFrameSize 13#4 0#2 padding) s

/-- FRAME.256.48000. -/
def execFrame256_48000 (padding : BitVec 1) (s : State) : Result :=
  acceptHeader (headerFrameSize 13#4 1#2 padding) s

/-- FRAME.256.32000. -/
def execFrame256_32000 (padding : BitVec 1) (s : State) : Result :=
  acceptHeader (headerFrameSize 13#4 2#2 padding) s

/-- FRAME.320.44100. -/
def execFrame320_44100 (padding : BitVec 1) (s : State) : Result :=
  acceptHeader (headerFrameSize 14#4 0#2 padding) s

/-- FRAME.320.48000. -/
def execFrame320_48000 (padding : BitVec 1) (s : State) : Result :=
  acceptHeader (headerFrameSize 14#4 1#2 padding) s

/-- FRAME.320.32000. -/
def execFrame320_32000 (padding : BitVec 1) (s : State) : Result :=
  acceptHeader (headerFrameSize 14#4 2#2 padding) s

end Sys2Proof.Machine
end

