-- ==== Sys2Proof/Machine/Launch.lean ====
section
/-! DEFINITION. LAUNCH (44_driving_loop.md R95), with the tag skip inside it (40_tag_skip.md R60, R63). Enabled when ST is Done and `start`
is asserted; the dispatch of Machine/Fetch.lean tests that. -/

namespace Sys2Proof.Machine

/-- LAUNCH.TAG: the cursor starts after the tag, at `10 + S`. -/
def execLaunchTag (size0 size1 size2 size3 : Byte) (s : State) : Result := launch (ssafe size0 size1 size2 size3 + 10) s

/-- LAUNCH.NOTAG: the cursor starts at 0. -/
def execLaunchNotag (s : State) : Result := launch 0 s

end Sys2Proof.Machine
end

