-- ==== Sys2Proof/Machine/Loop.lean ====
section
/-! DEFINITION. The driving loop's END and NOSYNC (44_driving_loop.md R96, R97). -/

namespace Sys2Proof.Machine

/-- END: ST becomes Done; CUR, CNT and LEN stay. -/
def execEndScan (s : State) : Result := .next s.finish

/-- NOSYNC: the cursor moves one byte. -/
def execNosync (s : State) : Result := stepOver s

end Sys2Proof.Machine
end

