-- ==== Sys2Proof/Machine/Reject.lean ====
section
/-! DEFINITION. REJECT (44_driving_loop.md R98): the cursor moves one byte, whatever the reason; the reason is not stored
(60_exceptions.md R111). -/

namespace Sys2Proof.Machine

/-- REJECT.VER.0. -/
def execRejectVer0 (s : State) : Result := stepOver s

/-- REJECT.VER.1. -/
def execRejectVer1 (s : State) : Result := stepOver s

/-- REJECT.VER.2. -/
def execRejectVer2 (s : State) : Result := stepOver s

/-- REJECT.LAY.0. -/
def execRejectLay0 (s : State) : Result := stepOver s

/-- REJECT.LAY.2. -/
def execRejectLay2 (s : State) : Result := stepOver s

/-- REJECT.LAY.3. -/
def execRejectLay3 (s : State) : Result := stepOver s

/-- REJECT.BR.0. -/
def execRejectBr0 (s : State) : Result := stepOver s

/-- REJECT.BR.15. -/
def execRejectBr15 (s : State) : Result := stepOver s

/-- REJECT.SR.3. -/
def execRejectSr3 (s : State) : Result := stepOver s

end Sys2Proof.Machine
end

