-- ==== Sys2Proof/Machine/Dispatch.lean ====
section
/-! DEFINITION. The meaning of every row of opcode_table.json. -/

namespace Sys2Proof.Machine

def exec (i : Instr) (s : State) : Host.Outcome State Fault Refusal :=
  match i with
  | .launchTag _ _ size0 size1 size2 size3 => Sys2Proof.Machine.execLaunchTag size0 size1 size2 size3 s
  | .launchNotag _ => Sys2Proof.Machine.execLaunchNotag s
  | .endScan => Sys2Proof.Machine.execEndScan s
  | .rejectVer0 _ _ _ _ _ _ => Sys2Proof.Machine.execRejectVer0 s
  | .rejectVer1 _ _ _ _ _ _ => Sys2Proof.Machine.execRejectVer1 s
  | .rejectVer2 _ _ _ _ _ _ => Sys2Proof.Machine.execRejectVer2 s
  | .rejectLay0 _ _ _ _ _ => Sys2Proof.Machine.execRejectLay0 s
  | .rejectLay2 _ _ _ _ _ => Sys2Proof.Machine.execRejectLay2 s
  | .rejectLay3 _ _ _ _ _ => Sys2Proof.Machine.execRejectLay3 s
  | .rejectBr0 _ _ _ _ => Sys2Proof.Machine.execRejectBr0 s
  | .rejectBr15 _ _ _ _ => Sys2Proof.Machine.execRejectBr15 s
  | .rejectSr3 _ _ _ _ => Sys2Proof.Machine.execRejectSr3 s
  | .frame32_44100 _ padding _ => Sys2Proof.Machine.execFrame32_44100 padding s
  | .frame32_48000 _ padding _ => Sys2Proof.Machine.execFrame32_48000 padding s
  | .frame32_32000 _ padding _ => Sys2Proof.Machine.execFrame32_32000 padding s
  | .frame40_44100 _ padding _ => Sys2Proof.Machine.execFrame40_44100 padding s
  | .frame40_48000 _ padding _ => Sys2Proof.Machine.execFrame40_48000 padding s
  | .frame40_32000 _ padding _ => Sys2Proof.Machine.execFrame40_32000 padding s
  | .frame48_44100 _ padding _ => Sys2Proof.Machine.execFrame48_44100 padding s
  | .frame48_48000 _ padding _ => Sys2Proof.Machine.execFrame48_48000 padding s
  | .frame48_32000 _ padding _ => Sys2Proof.Machine.execFrame48_32000 padding s
  | .frame56_44100 _ padding _ => Sys2Proof.Machine.execFrame56_44100 padding s
  | .frame56_48000 _ padding _ => Sys2Proof.Machine.execFrame56_48000 padding s
  | .frame56_32000 _ padding _ => Sys2Proof.Machine.execFrame56_32000 padding s
  | .frame64_44100 _ padding _ => Sys2Proof.Machine.execFrame64_44100 padding s
  | .frame64_48000 _ padding _ => Sys2Proof.Machine.execFrame64_48000 padding s
  | .frame64_32000 _ padding _ => Sys2Proof.Machine.execFrame64_32000 padding s
  | .frame80_44100 _ padding _ => Sys2Proof.Machine.execFrame80_44100 padding s
  | .frame80_48000 _ padding _ => Sys2Proof.Machine.execFrame80_48000 padding s
  | .frame80_32000 _ padding _ => Sys2Proof.Machine.execFrame80_32000 padding s
  | .frame96_44100 _ padding _ => Sys2Proof.Machine.execFrame96_44100 padding s
  | .frame96_48000 _ padding _ => Sys2Proof.Machine.execFrame96_48000 padding s
  | .frame96_32000 _ padding _ => Sys2Proof.Machine.execFrame96_32000 padding s
  | .frame112_44100 _ padding _ => Sys2Proof.Machine.execFrame112_44100 padding s
  | .frame112_48000 _ padding _ => Sys2Proof.Machine.execFrame112_48000 padding s
  | .frame112_32000 _ padding _ => Sys2Proof.Machine.execFrame112_32000 padding s
  | .frame128_44100 _ padding _ => Sys2Proof.Machine.execFrame128_44100 padding s
  | .frame128_48000 _ padding _ => Sys2Proof.Machine.execFrame128_48000 padding s
  | .frame128_32000 _ padding _ => Sys2Proof.Machine.execFrame128_32000 padding s
  | .frame160_44100 _ padding _ => Sys2Proof.Machine.execFrame160_44100 padding s
  | .frame160_48000 _ padding _ => Sys2Proof.Machine.execFrame160_48000 padding s
  | .frame160_32000 _ padding _ => Sys2Proof.Machine.execFrame160_32000 padding s
  | .frame192_44100 _ padding _ => Sys2Proof.Machine.execFrame192_44100 padding s
  | .frame192_48000 _ padding _ => Sys2Proof.Machine.execFrame192_48000 padding s
  | .frame192_32000 _ padding _ => Sys2Proof.Machine.execFrame192_32000 padding s
  | .frame224_44100 _ padding _ => Sys2Proof.Machine.execFrame224_44100 padding s
  | .frame224_48000 _ padding _ => Sys2Proof.Machine.execFrame224_48000 padding s
  | .frame224_32000 _ padding _ => Sys2Proof.Machine.execFrame224_32000 padding s
  | .frame256_44100 _ padding _ => Sys2Proof.Machine.execFrame256_44100 padding s
  | .frame256_48000 _ padding _ => Sys2Proof.Machine.execFrame256_48000 padding s
  | .frame256_32000 _ padding _ => Sys2Proof.Machine.execFrame256_32000 padding s
  | .frame320_44100 _ padding _ => Sys2Proof.Machine.execFrame320_44100 padding s
  | .frame320_48000 _ padding _ => Sys2Proof.Machine.execFrame320_48000 padding s
  | .frame320_32000 _ padding _ => Sys2Proof.Machine.execFrame320_32000 padding s
  | .nosync _ => Sys2Proof.Machine.execNosync s

end Sys2Proof.Machine
end

