-- ==== Sys2Proof/Machine/Fetch.lean ====
section
/-! DEFINITION. Which instruction the next step of the block runs (44_driving_loop.md R100), the read it presents on its memory port
(20_memory.md R34, R36), what a host action does (70_reset_and_hazards.md R128, R129), and how a word comes to be fetched. -/

namespace Sys2Proof.Machine

/-- What the dispatch finds. -/
inductive Fetched where
  /-- Nothing is enabled: the state holds (44_driving_loop.md R106). -/
  | idle
  /-- The one enabled transition (R100). -/
  | instr (i : Instr)
  /-- The window read is not answered (93 U5). -/
  | unanswered
deriving DecidableEq, Repr

/-- The dispatch of R100: the end test first, since it guards the read; `start` and `len` count only while ST is Done. -/
def fetch (s : State) : Fetched :=
  match s.st with
  | .done => if s.start then .instr (decodeTag (readTagHeader s)) else .idle
  | .scanning =>
    if atEnd s then .instr .endScan
    else
      match readWindow s with
      | some w => .instr (decodeWindow w)
      | none => .unanswered

/-- The read of the next step, as (offset, number of bytes): `mem_req` is whether there is one, `mem_addr` starts at the offset
(10_state.md R21, 20_memory.md R34). Reset reads nothing. -/
def State.memRequest (s : State) : Option (Nat × Nat) :=
  if s.rst then none
  else
    match s.st with
    | .done => if s.start && decide (10 ≤ s.lenIn) then some (0, 10) else none
    | .scanning => if atEnd s then none else some (s.cur, 4)

/-- A host action other than waiting: the inputs change at any time, the buffer memory only while ST is Done; a write during a scan
is refused (R118, R128, R129). -/
def hostAct (a : HostAction) (s : State) : Result :=
  match a with
  | .wait => .next s
  | .drive rst start len => .next (s.drive rst start len)
  | .store offset byte =>
    if s.st = .scanning then .refused .bufferWrittenDuringScan else .next (s.setBuf (s.buf.write offset byte))
  | .place bytes =>
    if s.st = .scanning then .refused .bufferWrittenDuringScan else .next (s.setBuf (Memory.ofBytes 0 bytes))

/-- Makes the next step fetch a window with the given bytes: they are stored at CUR, inside a scan that holds them. -/
def placeWindow (bytes : List Byte) (s : State) : State :=
  { s with
    buf := s.buf.writeBytes s.cur bytes, len := max s.len (s.cur + 4), st := .scanning, rst := false, host := [] }

/-- Makes the next step launch a buffer that begins with the given tag header. -/
def placeTagHeader (bytes : List Byte) (s : State) : State :=
  { s with buf := s.buf.writeBytes 0 bytes, st := .done, rst := false, start := true, lenIn := 10, host := [] }

/-- Makes the next step the end of a scan. -/
def placeEnd (s : State) : State :=
  { s with len := min s.len s.cur, st := .scanning, rst := false, host := [] }

end Sys2Proof.Machine
end

