-- ==== Sys2Proof/Machine/Step.lean ====
section
/-! DEFINITION. One step: the host's next action, or the block's one enabled transition (00_scope.md R9, 44_driving_loop.md R100). -/

namespace Sys2Proof.Machine

/-- A step of the block: `rst` dominates (60_exceptions.md R115); else the transition of R100; else the state holds (R106).
DESIGN CHOICE (log entry 17): `rst` acts in the block's next step and not at once when it is asserted; 10_state.md R23 does not say. -/
def blockStep (s : State) : Result :=
  if s.rst then .next s.resetRegs
  else
    match fetch s with
    | .idle => .next s
    | .instr i => exec i s
    | .unanswered => .refused .readUnanswered

/-- A step of the machine: the host's next action; the block steps when the host waits or has nothing planned (log entry 4). -/
def step (s : State) : Host.Outcome State Fault Refusal :=
  match s.host with
  | [] => blockStep s
  | .wait :: h => blockStep (s.setHost h)
  | a :: h => hostAct a (s.setHost h)

/-- `s` with a word of the opcode table where the next step fetches (numbered as `decodeTableWord` says). -/
def State.withFetchWord (s : State) (nbits w : Nat) : State :=
  if nbits = 0 then placeEnd s
  else if 8 < nbits ∧ nbits ≤ 32 then placeWindow (natToBytes 4 w) s
  else placeTagHeader (natToBytes 10 w) s

end Sys2Proof.Machine
end

