-- ==== Sys2Proof/Safety.lean ====
section
/-! DEFINITION. The terms in which statements about the machine are made: the host's duty at a launch, the invariants of the machine, the
step as 44_driving_loop.md R100 writes it (by predicates, not by the opcode table), and the reference function of R101. A run is
safe when no step of it is refused; the duties below are what the host owes for that (70_reset_and_hazards.md R128, R129). -/

namespace Sys2Proof.Machine

/-- The host's duty on `len` (R128 H1): at most LEN_MAX, and no more than the memory behind the port holds (20_memory.md R44). -/
def LaunchDuty (s : State) : Prop := s.lenIn ≤ Config.lenMax ∧ s.lenIn ≤ s.buf.extent

/-- What every step keeps: the memory is in its canonical form, and a scan never reaches past the memory it was launched on. -/
def Inv (s : State) : Prop := s.buf.wf ∧ (s.st = .scanning → s.len ≤ s.buf.extent)

/-- The bounds of 10_state.md R18 for a register width `w`, with the sharper bound on CNT of 44_driving_loop.md R107 and the fact
it rests on: accepted headers are at least 96 bytes apart. -/
def BoundsFor (w : Nat) (s : State) : Prop :=
  s.len ≤ Config.lenMaxOf w ∧ s.cur ≤ max (2 ^ 28 + 9) (s.len + 2876) ∧ 96 * s.cnt ≤ s.cur ∧
    (s.cnt ≠ 0 → 4 ≤ s.len ∧ s.cnt ≤ (s.len - 4) / 96 + 1)

/-- The step of the block as R100 writes it: TAGSKIP, SYNCDET and VALIDATE decide, no opcode table. -/
def blockStepByPredicates (s : State) : Result :=
  if s.rst then .next s.resetRegs
  else
    match s.st with
    | .done => if s.start then launch (tagSkip s.buf s.lenIn 0) s else .next s
    | .scanning =>
      if atEnd s then .next s.finish
      else
        match readWindow s with
        | none => .refused .readUnanswered
        | some w =>
          if syncHit s then
            match validate w with
            | .accept n => .next (s.countFrame n)
            | .reject _ => .next (s.advance 1)
          else .next (s.advance 1)

/-- The byte function of a memory, for statements whose hypotheses put every offset they use behind the port. -/
def bytesOf (m : Memory) (i : Nat) : Byte := (m.read i).getD 0#8

/-- The window at an offset of a buffer, most significant byte first (30_encoding.md R47). -/
def windowAt (byte : Nat → Byte) (c : Nat) : Window :=
  BitVec.ofNat 32 (0x1000000 * (byte c).toNat + 0x10000 * (byte (c + 1)).toNat + 0x100 * (byte (c + 2)).toNat + (byte (c + 3)).toNat)

/-- `TagSkip(0)` of a buffer (40_tag_skip.md R63). -/
def initialCursor (byte : Nat → Byte) (len : Nat) : Nat :=
  if 10 ≤ len ∧ byte 0 = 0x49#8 ∧ byte 1 = 0x44#8 ∧ byte 2 = 0x33#8 then
    ssafe (byte 6) (byte 7) (byte 8) (byte 9) + 10
  else 0

/-- The loop of R101 from a cursor and a count, with as many iterations as the first argument allows. -/
def countLoop (byte : Nat → Byte) (len : Nat) : Nat → Nat → Nat → Nat
  | 0, _, cnt => cnt
  | fuel + 1, cur, cnt =>
    if len < cur + 4 then cnt
    else if syncDet (byte cur) (byte (cur + 1)) then
      match validate (windowAt byte cur) with
      | .accept n => countLoop byte len fuel (cur + n) (cnt + 1)
      | .reject _ => countLoop byte len fuel (cur + 1) cnt
    else countLoop byte len fuel (cur + 1) cnt

/-- `CountFrames(BUF, LEN)` (R101). `LEN + 1` iterations are enough (R102). -/
def countFrames (byte : Nat → Byte) (len : Nat) : Nat := countLoop byte len (len + 1) (initialCursor byte len) 0

/-- The buffer holds no sync candidate (41_sync_detect.md R73). -/
def NoCandidate (byte : Nat → Byte) (len : Nat) : Prop :=
  ∀ c, c + 1 < len → ¬ (byte c = 0xFF#8 ∧ byte (c + 1) &&& 0xE0#8 = 0xE0#8)

/-- The rows that add 1 to CNT: the FRAME rows (10_state.md R12). -/
def countsFrame (i : Instr) : Bool :=
  match i with
  | .nosync _ => false
  | i => i.format == .window && rejectReason i == none

/-- A read of consecutive bytes made as several reads of the given numbers of bytes (20_memory.md R33, R35, R36). -/
def readInParts (m : Memory) (len addr : Nat) : List Nat → Option Nat
  | [] => some 0
  | n :: ns => (memRead m len addr n).bind fun hi => (readInParts m len (addr + n) ns).map fun lo => 256 ^ ns.sum * hi + lo

/-- The number of steps after LAUNCH that 44_driving_loop.md R102 allows: window steps and the one END step. -/
def stepBound (s : State) : Nat := s.len - 3 - s.cur + 1

end Sys2Proof.Machine
end

