-- ==== Sys2Proof/Certificates/Slice0/Obligations.lean ====
section
/-! DEFINITION. The statements for the provers, from the numbered rules of spec/. -/

open Sys2Proof Sys2Proof.Machine

/-- Decoding the bytes of a well-formed instruction gives it back (30_encoding.md R46, R49, R51, R54). -/
def Obligations.DecodeEncodeRoundTrip : Prop :=
  ∀ i : Instr, i.wellFormed = true → decode i.format (encode i) = .ok i

/-- Whatever decodes, encodes back to the same bytes, in its format, and is well formed (30_encoding.md R45, R46, R49, R53). -/
def Obligations.EveryDecodedByteListIsItsEncoding : Prop :=
  ∀ (f : Format) (bs : List Byte) (i : Instr), decode f bs = .ok i → i.wellFormed = true ∧ i.format = f ∧ encode i = bs

/-- The decoder rejects a byte list exactly for its length (30_encoding.md R45, R53 (c), R55). -/
def Obligations.DecoderRejectsOnlyWrongLengths : Prop :=
  ∀ bs : List Byte,
    (decode .window bs = .error .windowIsFourBytes ↔ bs.length ≠ 4) ∧ ((∃ i, decode .window bs = .ok i) ↔ bs.length = 4) ∧
    (decode .tagHeader bs = .error .tagHeaderIsTenBytes ↔ bs.length ≠ 10 ∧ bs.length ≠ 0) ∧
    ((∃ i, decode .tagHeader bs = .ok i) ↔ bs.length = 10 ∨ bs.length = 0) ∧
    (decode .noBytes bs = .error .endHasNoBytes ↔ bs.length ≠ 0) ∧ (decode .noBytes bs = .ok .endScan ↔ bs.length = 0)

/-- The decoder gives the first row of the opcode table whose match and mask a word meets (30_encoding.md R51, R54; spec/opcode_table.json). -/
def Obligations.DecodedRowIsFirstMatchOfTable : Prop :=
  (∀ w : Window, firstRow w = some (decodeWindow w).mnemonic) ∧
    ∀ t : TagHeader, (decodeTag (some t)).mnemonic =
      if t &&& 0xFFFFFF00000000000000#80 = 0x49443300000000000000#80 then "LAUNCH.TAG" else "LAUNCH.NOTAG"

/-- Sample words of the spec decode to the rows the spec gives them (42_header_decode.md R83; 40_tag_skip.md R67; 95_test_vectors.md 2.5). -/
def Obligations.WrittenOutWordsDecode : Prop :=
  decode .window [0xFF#8, 0xFB#8, 0x90#8, 0x00#8] = .ok (.frame128_44100 1#1 0#1 0#9) ∧
    decode .window [0xFF#8, 0xFB#8, 0xEA#8, 0x00#8] = .ok (.frame320_32000 1#1 1#1 0#9) ∧
    decode .window [0xFF#8, 0xF3#8, 0x90#8, 0x00#8] = .ok (.rejectVer2 1#2 1#1 9#4 0#2 0#1 0#9) ∧
    decode .window [0xFF#8, 0xFF#8, 0xFF#8, 0xFF#8] = .ok (.rejectLay3 1#1 15#4 3#2 1#1 0x1FF#9) ∧
    decode .window [0xFF#8, 0xFB#8, 0xFC#8, 0x00#8] = .ok (.rejectBr15 1#1 3#2 0#1 0#9) ∧
    decode .window [0xFF#8, 0xFB#8, 0x9C#8, 0x00#8] = .ok (.rejectSr3 1#1 9#4 0#1 0#9) ∧
    decode .window [0xFF#8, 0xDB#8, 0x90#8, 0x00#8] = .ok (.nosync ⟨0x7FE#11, 3#2, 1#2, 1#1, 9#4, 0#2, 0#1, 0#9⟩) ∧
    decode .tagHeader [0x49#8, 0x44#8, 0x33#8, 0x03#8, 0x00#8, 0x00#8, 0x00#8, 0x00#8, 0x02#8, 0x01#8] =
      .ok (.launchTag 0x0300#16 0#8 0#8 0#8 2#8 1#8) ∧
    decode .noBytes [] = .ok .endScan

/-- A step runs the instruction that the bytes it fetches decode to (44_driving_loop.md R95, R96, R100; 42_header_decode.md R76; 30_encoding.md R54, R55).
The first two clauses (a wait in the host's list is used up, an empty list lets the block step) are the model's choice, log entry 4. -/
def Obligations.StepRunsDecodedInstruction : Prop :=
  ∀ s : State,
    (∀ h, s.host = .wait :: h → step s = blockStep (s.setHost h)) ∧ (s.host = [] → step s = blockStep s) ∧
    (s.rst = false → s.st = .scanning → s.len < s.cur + 4 → blockStep s = exec .endScan s) ∧
    (∀ b0 b1 b2 b3 i, s.rst = false → s.st = .scanning → s.cur + 4 ≤ s.len → bufByte s.buf s.len s.cur = some b0 →
      bufByte s.buf s.len (s.cur + 1) = some b1 → bufByte s.buf s.len (s.cur + 2) = some b2 →
      bufByte s.buf s.len (s.cur + 3) = some b3 → decode .window [b0, b1, b2, b3] = .ok i → blockStep s = exec i s) ∧
    (∀ i, s.rst = false → s.st = .done → s.start = true → s.lenIn < 10 → decode .tagHeader [] = .ok i → blockStep s = exec i s) ∧
    (∀ bs i, s.rst = false → s.st = .done → s.start = true → 10 ≤ s.lenIn → bs.length = 10 →
      (∀ k, k < 10 → bufByte s.buf s.lenIn k = bs[k]?) → decode .tagHeader bs = .ok i → blockStep s = exec i s)

/-- A table word placed where the machine fetches is what the next step runs (44_driving_loop.md R100; spec/opcode_table.json). -/
def Obligations.FetchedTableWordRuns : Prop :=
  ∀ (s : State) (nbits w : Nat) (i : Instr), decodeTableWord nbits w = some i →
    step (s.withFetchWord nbits w) = exec i (s.withFetchWord nbits w)

/-- SSAFE is the big-endian concatenation of the low seven bits of four bytes (R61). -/
def Obligations.SsafeConcatenatesSevenBitGroups : Prop :=
  (∀ b0 b1 b2 b3 : Byte,
      ssafe b0 b1 b2 b3 = 2097152 * (b0.toNat % 128) + 16384 * (b1.toNat % 128) + 128 * (b2.toNat % 128) + b3.toNat % 128 ∧
      ssafe b0 b1 b2 b3 ≤ 268435455 ∧
      ssafe (b0 ||| 0x80#8) (b1 ||| 0x80#8) (b2 ||| 0x80#8) (b3 ||| 0x80#8) = ssafe b0 b1 b2 b3) ∧
    ∀ v, v ≤ 268435455 → ∃ b0 b1 b2 b3 : Byte,
      b0.toNat < 128 ∧ b1.toNat < 128 ∧ b2.toNat < 128 ∧ b3.toNat < 128 ∧ ssafe b0 b1 b2 b3 = v

/-- TAGDET and TAGSKIP on a buffer behind the port (R62; R63). -/
def Obligations.TagSkipOfBackedBuffer : Prop :=
  ∀ (m : Memory) (len off : Nat), len ≤ m.extent →
    (tagPresent m len off = true ↔
      off + 10 ≤ len ∧ bytesOf m off = 0x49#8 ∧ bytesOf m (off + 1) = 0x44#8 ∧ bytesOf m (off + 2) = 0x33#8) ∧
    (tagPresent m len off = true → tagSkip m len off =
      off + (ssafe (bytesOf m (off + 6)) (bytesOf m (off + 7)) (bytesOf m (off + 8)) (bytesOf m (off + 9)) + 10)) ∧
    (tagPresent m len off = false → tagSkip m len off = off)

/-- The byte tests of SYNCDET are the 11-bit all-ones test on the window (R48; R70). -/
def Obligations.SyncDetIsElevenOnes : Prop :=
  (∀ w : Window, (syncDet (w.extractLsb' 24 8) (w.extractLsb' 16 8) = true ↔ w &&& 0xFFE00000#32 = 0xFFE00000#32) ∧
      (syncDet (w.extractLsb' 24 8) (w.extractLsb' 16 8) = true ↔ (splitH w).syncWord = 0x7FF#11)) ∧
    ∀ b0 b1 : Byte, syncDet b0 b1 = true ↔ b0 = 0xFF#8 ∧ 0xE0 ≤ b1.toNat

/-- The two lookup tables and the 42 frame sizes are those of the spec (R78; R79; R91). -/
def Obligations.LookupTablesAndFrameSizes : Prop :=
  (List.range 16).map (fun k => bitrateKbps (BitVec.ofNat 4 k)) = [0, 32, 40, 48, 56, 64, 80, 96, 112, 128, 160, 192, 224, 256, 320, 0] ∧
    (List.range 4).map (fun k => sampleRateHz (BitVec.ofNat 2 k)) = [44100, 48000, 32000, 0] ∧
    (List.range 14).map (fun k => headerFrameSize (BitVec.ofNat 4 (k + 1)) 0#2 0#1) =
      [104, 130, 156, 182, 208, 261, 313, 365, 417, 522, 626, 731, 835, 1044] ∧
    (List.range 14).map (fun k => headerFrameSize (BitVec.ofNat 4 (k + 1)) 1#2 0#1) =
      [96, 120, 144, 168, 192, 240, 288, 336, 384, 480, 576, 672, 768, 960] ∧
    (List.range 14).map (fun k => headerFrameSize (BitVec.ofNat 4 (k + 1)) 2#2 0#1) =
      [144, 180, 216, 252, 288, 360, 432, 504, 576, 720, 864, 1008, 1152, 1440] ∧
    (List.range 14).map (fun k => 144 * bitrateKbps (BitVec.ofNat 4 (k + 1)) * 1000 % 44100) =
      [21600, 27000, 32400, 37800, 43200, 9900, 20700, 31500, 42300, 19800, 41400, 18900, 40500, 39600] ∧
    ∀ (b : BitVec 4) (r : BitVec 2), b ≠ 0#4 → b ≠ 15#4 → r ≠ 3#2 → headerFrameSize b r 1#1 = headerFrameSize b r 0#1 + 1

/-- The verdict of VALIDATE on every window (R85; R86; R88; R89; R90). -/
def Obligations.ValidateVerdict : Prop :=
  ∀ w : Window, ∀ f, f = splitH w → ∀ n₀, n₀ = 144 * bitrateKbps f.bitrateIndex * 1000 / sampleRateHz f.sampleRateIndex + f.padding.toNat →
    (validate w = .reject .version ↔ f.mpegVersion ≠ 3#2) ∧
    (validate w = .reject .layer ↔ f.mpegVersion = 3#2 ∧ f.layer ≠ 1#2) ∧
    (validate w = .reject .bitrate ↔ f.mpegVersion = 3#2 ∧ f.layer = 1#2 ∧ (f.bitrateIndex = 0#4 ∨ f.bitrateIndex = 15#4)) ∧
    (validate w = .reject .sampleRate ↔
      f.mpegVersion = 3#2 ∧ f.layer = 1#2 ∧ f.bitrateIndex ≠ 0#4 ∧ f.bitrateIndex ≠ 15#4 ∧ f.sampleRateIndex = 3#2) ∧
    (validate w = .reject .size ↔ f.mpegVersion = 3#2 ∧ f.layer = 1#2 ∧ f.bitrateIndex ≠ 0#4 ∧ f.bitrateIndex ≠ 15#4 ∧
      f.sampleRateIndex ≠ 3#2 ∧ ¬ (0 < n₀ ∧ n₀ < 2881)) ∧
    ∀ n, (validate w = .accept n ↔ f.mpegVersion = 3#2 ∧ f.layer = 1#2 ∧ f.bitrateIndex ≠ 0#4 ∧ f.bitrateIndex ≠ 15#4 ∧
      f.sampleRateIndex ≠ 3#2 ∧ (0 < n₀ ∧ n₀ < 2881) ∧ n = n₀)

/-- No window is rejected for its size, and accepted sizes are 96 to 1441 (R92). -/
def Obligations.SizeBoundIsVacuous : Prop :=
  (∀ w : Window, versionLayerOk (splitH w) = true → indicesOk (splitH w) = true →
      96 ≤ headerFrameSize (splitH w).bitrateIndex (splitH w).sampleRateIndex (splitH w).padding ∧
      headerFrameSize (splitH w).bitrateIndex (splitH w).sampleRateIndex (splitH w).padding ≤ 1441) ∧
    (∀ w : Window, validate w ≠ .reject .size) ∧
    validate 0xFFFB1400#32 = .accept 96 ∧ validate 0xFFFBEA00#32 = .accept 1441

/-- The row of a window agrees with the sync test and the validator (30_encoding.md R51; 60_exceptions.md R111; 43_header_validate_framesize.md R89). -/
def Obligations.DecodedRowAgreesWithValidator : Prop :=
  ∀ w : Window,
    ((splitH w).syncWord ≠ 0x7FF#11 ↔ decodeWindow w = .nosync (splitH w)) ∧
    ((splitH w).syncWord = 0x7FF#11 → (∀ r, validate w = .reject r ↔ rejectReason (decodeWindow w) = some r) ∧
      (hdrValid w = true ↔ countsFrame (decodeWindow w) = true))

/-- Bits 16 and 8:0 of the window change neither the verdict nor the effect (R80). -/
def Obligations.IgnoredHeaderBitsChangeNothing : Prop :=
  ∀ (w w' : Window) (s : State), w &&& 0xFFFEFE00#32 = w' &&& 0xFFFEFE00#32 →
    validate w = validate w' ∧ exec (decodeWindow w) s = exec (decodeWindow w') s

/-- The window is the four bytes at CUR, the lowest offset most significant (R47; R76). -/
def Obligations.WindowIsBigEndian : Prop :=
  ∀ (s : State) (b0 b1 b2 b3 : Byte), bufByte s.buf s.len s.cur = some b0 → bufByte s.buf s.len (s.cur + 1) = some b1 →
    bufByte s.buf s.len (s.cur + 2) = some b2 → bufByte s.buf s.len (s.cur + 3) = some b3 →
    ∃ w : Window, readWindow s = some w ∧ w.extractLsb' 24 8 = b0 ∧ w.extractLsb' 16 8 = b1 ∧ w.extractLsb' 8 8 = b2 ∧
      w.extractLsb' 0 8 = b3 ∧ w.toNat = 0x1000000 * b0.toNat + 0x10000 * b1.toNat + 0x100 * b2.toNat + b3.toNat

/-- A read assembled from any sequence of smaller reads gives the same value (20_memory.md R33, R35, R36). -/
def Obligations.ReadsMayBeSplitAnyhow : Prop :=
  ∀ (m : Memory) (len addr : Nat) (parts : List Nat), readInParts m len addr parts = memRead m len addr parts.sum

/-- Every read the block presents lies inside the buffer (20_memory.md R32, R44; 93_implementation_defined.md U5).
The last clause rests on the model's memory (log entry 1) and on a window being answered whole (log entry 9). -/
def Obligations.ReadRequestsAreInBounds : Prop :=
  (∀ (s : State) (a n : Nat), s.memRequest = some (a, n) → a + n ≤ if s.st = .done then s.lenIn else s.len) ∧
    (∀ (m : Memory) (len a : Nat) (v : Nat) (b : Byte) (n : Nat), memRead m len a n = some v → bufByte m len (a + n) = some b →
      memRead m len a (n + 1) = some (256 * v + b.toNat)) ∧
    (∀ (m : Memory) (len a n v : Nat), 0 < n → memRead m len a n = some v → a + n ≤ len) ∧
    ∀ s : State, Inv s → step s ≠ .refused .readUnanswered

/-- Both LAUNCH rows latch the length, clear the count and set the cursor (44_driving_loop.md R95; 40_tag_skip.md R61, R63). -/
def Obligations.LaunchRowsComplete : Prop :=
  ∀ s : State, LaunchDuty s →
    (∀ version flags (b0 b1 b2 b3 : Byte), exec (.launchTag version flags b0 b1 b2 b3) s = .next { s with
      len := s.lenIn
      cnt := 0
      cur := 10 + (2097152 * (b0.toNat % 128) + 16384 * (b1.toNat % 128) + 128 * (b2.toNat % 128) + b3.toNat % 128)
      st := .scanning }) ∧
    ∀ header, exec (.launchNotag header) s = .next { s with len := s.lenIn, cnt := 0, cur := 0, st := .scanning }

/-- A step in Done with start asserted is LAUNCH (R95). -/
def Obligations.LaunchStepSkipsTheTag : Prop :=
  ∀ s : State, s.host = [] → s.rst = false → s.st = .done → s.start = true → LaunchDuty s →
    step s = .next { s with len := s.lenIn, cnt := 0, cur := tagSkip s.buf s.lenIn 0, st := .scanning } ∧
    tagSkip s.buf s.lenIn 0 = initialCursor (bytesOf s.buf) s.lenIn ∧
    ∀ len cur cnt, step { s with len := len, cur := cur, cnt := cnt } = step s

/-- A launch is refused exactly for a length above LEN_MAX or beyond the memory (70_reset_and_hazards.md R129; 44_driving_loop.md R95 (e); 20_memory.md R44). -/
def Obligations.LaunchRefusesBrokenLengthDuty : Prop :=
  ∀ (s : State) (i : Instr), i.format = .tagHeader →
    (exec i s = .refused .lenBeyondMax ↔ Config.lenMax < s.lenIn) ∧
    (exec i s = .refused .lenBeyondMemory ↔ s.lenIn ≤ Config.lenMax ∧ s.buf.extent < s.lenIn)

/-- END sets ST to Done and changes nothing else (R96). -/
def Obligations.EndCompletes : Prop :=
  (∀ s : State, exec .endScan s = .next { s with st := .done }) ∧
    ∀ s : State, s.host = [] → s.rst = false → s.st = .scanning → s.cur + 4 > s.len → step s = .next { s with st := .done }

/-- NOSYNC moves the cursor one byte and changes nothing else (R97). -/
def Obligations.NosyncCompletes : Prop :=
  (∀ (f : FormatH) (s : State), exec (.nosync f) s = .next { s with cur := s.cur + 1 }) ∧
    ∀ (s : State) (w : Window), s.host = [] → s.rst = false → s.st = .scanning → s.cur + 4 ≤ s.len → readWindow s = some w →
      syncHit s = false → step s = .next { s with cur := s.cur + 1 }

/-- Every REJECT row moves the cursor one byte and changes nothing else (R98). -/
def Obligations.RejectRowsComplete : Prop :=
  (∀ (l : BitVec 2) (u : BitVec 1) (b : BitVec 4) (r : BitVec 2) (p : BitVec 1) (x : BitVec 9) (s : State),
      exec (.rejectVer0 l u b r p x) s = .next { s with cur := s.cur + 1 } ∧
      exec (.rejectVer1 l u b r p x) s = .next { s with cur := s.cur + 1 } ∧
      exec (.rejectVer2 l u b r p x) s = .next { s with cur := s.cur + 1 } ∧
      exec (.rejectLay0 u b r p x) s = .next { s with cur := s.cur + 1 } ∧
      exec (.rejectLay2 u b r p x) s = .next { s with cur := s.cur + 1 } ∧
      exec (.rejectLay3 u b r p x) s = .next { s with cur := s.cur + 1 } ∧
      exec (.rejectBr0 u r p x) s = .next { s with cur := s.cur + 1 } ∧
      exec (.rejectBr15 u r p x) s = .next { s with cur := s.cur + 1 } ∧
      exec (.rejectSr3 u b p x) s = .next { s with cur := s.cur + 1 }) ∧
    ∀ (s : State) (w : Window) (reason : RejectReason), s.host = [] → s.rst = false → s.st = .scanning → s.cur + 4 ≤ s.len →
      readWindow s = some w → syncHit s = true → validate w = .reject reason → step s = .next { s with cur := s.cur + 1 }

/-- Every FRAME row adds 1 to the count and its frame size to the cursor (44_driving_loop.md R99; 43_header_validate_framesize.md R91; spec/opcode_table.json). -/
def Obligations.FrameRowsComplete : Prop :=
  ∀ (u p : BitVec 1) (x : BitVec 9) (s : State),
    exec (.frame32_44100 u p x) s = .next { s with cnt := s.cnt + 1, cur := s.cur + (104 + p.toNat) } ∧
    exec (.frame32_48000 u p x) s = .next { s with cnt := s.cnt + 1, cur := s.cur + (96 + p.toNat) } ∧
    exec (.frame32_32000 u p x) s = .next { s with cnt := s.cnt + 1, cur := s.cur + (144 + p.toNat) } ∧
    exec (.frame40_44100 u p x) s = .next { s with cnt := s.cnt + 1, cur := s.cur + (130 + p.toNat) } ∧
    exec (.frame40_48000 u p x) s = .next { s with cnt := s.cnt + 1, cur := s.cur + (120 + p.toNat) } ∧
    exec (.frame40_32000 u p x) s = .next { s with cnt := s.cnt + 1, cur := s.cur + (180 + p.toNat) } ∧
    exec (.frame48_44100 u p x) s = .next { s with cnt := s.cnt + 1, cur := s.cur + (156 + p.toNat) } ∧
    exec (.frame48_48000 u p x) s = .next { s with cnt := s.cnt + 1, cur := s.cur + (144 + p.toNat) } ∧
    exec (.frame48_32000 u p x) s = .next { s with cnt := s.cnt + 1, cur := s.cur + (216 + p.toNat) } ∧
    exec (.frame56_44100 u p x) s = .next { s with cnt := s.cnt + 1, cur := s.cur + (182 + p.toNat) } ∧
    exec (.frame56_48000 u p x) s = .next { s with cnt := s.cnt + 1, cur := s.cur + (168 + p.toNat) } ∧
    exec (.frame56_32000 u p x) s = .next { s with cnt := s.cnt + 1, cur := s.cur + (252 + p.toNat) } ∧
    exec (.frame64_44100 u p x) s = .next { s with cnt := s.cnt + 1, cur := s.cur + (208 + p.toNat) } ∧
    exec (.frame64_48000 u p x) s = .next { s with cnt := s.cnt + 1, cur := s.cur + (192 + p.toNat) } ∧
    exec (.frame64_32000 u p x) s = .next { s with cnt := s.cnt + 1, cur := s.cur + (288 + p.toNat) } ∧
    exec (.frame80_44100 u p x) s = .next { s with cnt := s.cnt + 1, cur := s.cur + (261 + p.toNat) } ∧
    exec (.frame80_48000 u p x) s = .next { s with cnt := s.cnt + 1, cur := s.cur + (240 + p.toNat) } ∧
    exec (.frame80_32000 u p x) s = .next { s with cnt := s.cnt + 1, cur := s.cur + (360 + p.toNat) } ∧
    exec (.frame96_44100 u p x) s = .next { s with cnt := s.cnt + 1, cur := s.cur + (313 + p.toNat) } ∧
    exec (.frame96_48000 u p x) s = .next { s with cnt := s.cnt + 1, cur := s.cur + (288 + p.toNat) } ∧
    exec (.frame96_32000 u p x) s = .next { s with cnt := s.cnt + 1, cur := s.cur + (432 + p.toNat) } ∧
    exec (.frame112_44100 u p x) s = .next { s with cnt := s.cnt + 1, cur := s.cur + (365 + p.toNat) } ∧
    exec (.frame112_48000 u p x) s = .next { s with cnt := s.cnt + 1, cur := s.cur + (336 + p.toNat) } ∧
    exec (.frame112_32000 u p x) s = .next { s with cnt := s.cnt + 1, cur := s.cur + (504 + p.toNat) } ∧
    exec (.frame128_44100 u p x) s = .next { s with cnt := s.cnt + 1, cur := s.cur + (417 + p.toNat) } ∧
    exec (.frame128_48000 u p x) s = .next { s with cnt := s.cnt + 1, cur := s.cur + (384 + p.toNat) } ∧
    exec (.frame128_32000 u p x) s = .next { s with cnt := s.cnt + 1, cur := s.cur + (576 + p.toNat) } ∧
    exec (.frame160_44100 u p x) s = .next { s with cnt := s.cnt + 1, cur := s.cur + (522 + p.toNat) } ∧
    exec (.frame160_48000 u p x) s = .next { s with cnt := s.cnt + 1, cur := s.cur + (480 + p.toNat) } ∧
    exec (.frame160_32000 u p x) s = .next { s with cnt := s.cnt + 1, cur := s.cur + (720 + p.toNat) } ∧
    exec (.frame192_44100 u p x) s = .next { s with cnt := s.cnt + 1, cur := s.cur + (626 + p.toNat) } ∧
    exec (.frame192_48000 u p x) s = .next { s with cnt := s.cnt + 1, cur := s.cur + (576 + p.toNat) } ∧
    exec (.frame192_32000 u p x) s = .next { s with cnt := s.cnt + 1, cur := s.cur + (864 + p.toNat) } ∧
    exec (.frame224_44100 u p x) s = .next { s with cnt := s.cnt + 1, cur := s.cur + (731 + p.toNat) } ∧
    exec (.frame224_48000 u p x) s = .next { s with cnt := s.cnt + 1, cur := s.cur + (672 + p.toNat) } ∧
    exec (.frame224_32000 u p x) s = .next { s with cnt := s.cnt + 1, cur := s.cur + (1008 + p.toNat) } ∧
    exec (.frame256_44100 u p x) s = .next { s with cnt := s.cnt + 1, cur := s.cur + (835 + p.toNat) } ∧
    exec (.frame256_48000 u p x) s = .next { s with cnt := s.cnt + 1, cur := s.cur + (768 + p.toNat) } ∧
    exec (.frame256_32000 u p x) s = .next { s with cnt := s.cnt + 1, cur := s.cur + (1152 + p.toNat) } ∧
    exec (.frame320_44100 u p x) s = .next { s with cnt := s.cnt + 1, cur := s.cur + (1044 + p.toNat) } ∧
    exec (.frame320_48000 u p x) s = .next { s with cnt := s.cnt + 1, cur := s.cur + (960 + p.toNat) } ∧
    exec (.frame320_32000 u p x) s = .next { s with cnt := s.cnt + 1, cur := s.cur + (1440 + p.toNat) }

/-- A step at an accepted header counts it and moves the cursor by its frame size (R99). -/
def Obligations.FrameStepCompletes : Prop :=
  ∀ (s : State) (w : Window) (n : Nat), s.host = [] → s.rst = false → s.st = .scanning → s.cur + 4 ≤ s.len →
    readWindow s = some w → syncHit s = true → validate w = .accept n →
    step s = .next { s with cnt := s.cnt + 1, cur := s.cur + n } ∧ 96 ≤ n ∧ n ≤ 1441

/-- Running the opcode table is the dispatch by TAGSKIP, SYNCDET and VALIDATE (44_driving_loop.md R100; 41_sync_detect.md R70; 43_header_validate_framesize.md R89). -/
def Obligations.BlockStepIsThePredicateDispatch : Prop :=
  ∀ s : State, blockStep s = blockStepByPredicates s

/-- No instruction writes memory or the host inputs (10_state.md R16; 20_memory.md R34; 60_exceptions.md R118). -/
def Obligations.ExecNeverWritesBufferOrInputs : Prop :=
  ∀ (i : Instr) (s t : State), exec i s = .next t →
    (∀ a, t.buf.read a = s.buf.read a) ∧ t.buf = s.buf ∧ t.rst = s.rst ∧ t.start = s.start ∧ t.lenIn = s.lenIn ∧ t.host = s.host

/-- LEN, CUR, CNT and ST are written only by the rows the spec names (10_state.md R11, R12, R13, R14; 44_driving_loop.md R108). -/
def Obligations.RegistersHaveOnlyTheirWriters : Prop :=
  ∀ (i : Instr) (s t : State), exec i s = .next t →
    (countsFrame i = true → t.cnt = s.cnt + 1 ∧ t.len = s.len ∧ t.st = s.st) ∧
    (i.format = .window → countsFrame i = false → t.cnt = s.cnt ∧ t.len = s.len ∧ t.st = s.st ∧ t.cur = s.cur + 1) ∧
    (i = .endScan → t.cnt = s.cnt ∧ t.len = s.len ∧ t.cur = s.cur ∧ t.st = .done) ∧
    (i.format = .tagHeader → t.len = s.lenIn ∧ t.cnt = 0 ∧ t.st = .scanning)

/-- Reset leaves ST = Done and CNT = CUR = LEN = 0, and touches no byte (R125). -/
def Obligations.ResetStateValues : Prop :=
  (State.reset.st = .done ∧ State.reset.cnt = 0 ∧ State.reset.cur = 0 ∧ State.reset.len = 0 ∧ State.reset.doneOut = true ∧
      State.reset.countOut = 0) ∧
    ∀ s : State, s.host = [] → s.rst = true → step s = .next { s with st := .done, cnt := 0, cur := 0, len := 0 }

/-- In Done without start nothing changes (44_driving_loop.md R106). -/
def Obligations.DoneHolds : Prop :=
  ∀ s : State, s.host = [] → s.rst = false → s.st = .done → s.start = false →
    step s = .next s ∧ s.doneOut = true ∧ s.countOut = s.cnt

/-- start and len are not read while Scanning (44_driving_loop.md R95 (c), R100). -/
def Obligations.InputsIgnoredWhileScanning : Prop :=
  ∀ (s : State) (start : Bool) (len : Nat), s.host = [] → s.st = .scanning →
    step { s with start := start, lenIn := len } = onNext (fun t => { t with start := start, lenIn := len }) (step s)

/-- The host reaches only BUF and its inputs, and writes BUF only in Done (60_exceptions.md R118; 70_reset_and_hazards.md R128, R129; 20_memory.md R41).
The list of actions, the moment at which rst acts, and the refusal in Scanning also of a write that changes no byte or lies beyond LEN
are the model's choices, log entries 4, 17 and 7. -/
def Obligations.HostActionsTouchOnlyTheirOwn : Prop :=
  ∀ (s : State) (h : List HostAction),
    (∀ r b l, s.host = .drive r b l :: h → step s = .next { s with rst := r, start := b, lenIn := l, host := h }) ∧
    (∀ o v, s.host = .store o v :: h → (s.st = .scanning → step s = .refused .bufferWrittenDuringScan) ∧
      (s.st = .done → ∃ m, step s = .next { s with buf := m, host := h } ∧ m.read o = some v ∧ ∀ a, a ≠ o → m.read a = s.buf.read a)) ∧
    (∀ bs, s.host = .place bs :: h → (s.st = .scanning → step s = .refused .bufferWrittenDuringScan) ∧
      (s.st = .done → ∃ m, step s = .next { s with buf := m, host := h } ∧ (∀ a, m.read a = bs[a]?) ∧ m.extent = bs.length))

/-- Every step keeps the memory canonical and the scan inside the memory (20_memory.md R32, R38; 70_reset_and_hazards.md R128, R129).
The form and the extent of the memory are the model's choice, log entry 1; the host's list of actions is, log entry 4. -/
def Obligations.InvariantKeptByEveryStep : Prop :=
  ∀ s t : State, Inv s → step s = .next t → Inv t

/-- The invariants hold at reset (10_state.md R18, R23).
The memory and the host's list at reset are the model's choice, log entries 1 and 4. -/
def Obligations.InvariantsHoldAtReset : Prop :=
  Inv State.reset ∧ ∀ w, Config.minWidth ≤ w → BoundsFor w State.reset

/-- No register wraps, for every width W of at least 29 bits (R18). -/
def Obligations.RegistersNeverWrap : Prop :=
  ∀ (w : Nat) (s t : State), Config.minWidth ≤ w → BoundsFor w s → s.lenIn ≤ Config.lenMaxOf w → step s = .next t →
    BoundsFor w t ∧ t.cur ≤ max (2 ^ 28 + 9) (t.len + 2876) ∧ t.cur + 4 < 2 ^ w ∧ t.cnt ≤ t.len - 3 ∧ t.cnt < 2 ^ w

/-- A Scanning step ends the scan or moves the cursor forward (10_state.md R19 (b), (c), (d); 44_driving_loop.md R102, R108). -/
def Obligations.EveryScanStepProgresses : Prop :=
  ∀ s t : State, s.host = [] → s.rst = false → s.st = .scanning → step s = .next t →
    t.len = s.len ∧ t.buf = s.buf ∧
    ((s.len < s.cur + 4 ∧ t.st = .done ∧ t.cur = s.cur ∧ t.cnt = s.cnt) ∨
     (s.cur + 4 ≤ s.len ∧ t.st = .scanning ∧ t.cur = s.cur + 1 ∧ t.cnt = s.cnt) ∨
     (s.cur + 4 ≤ s.len ∧ t.st = .scanning ∧ s.cur + 96 ≤ t.cur ∧ t.cur ≤ s.cur + 1441 ∧ t.cnt = s.cnt + 1))

/-- BUF does not change during a scan (R38). -/
def Obligations.BufferFixedDuringScan : Prop :=
  ∀ s t : State, s.st = .scanning → step s = .next t → t.buf = s.buf ∧ ∀ a, t.buf.read a = s.buf.read a

/-- From a state of the invariant a step is refused only for a broken host duty (60_exceptions.md R110, R112; 70_reset_and_hazards.md R129). -/
def Obligations.OnlyBrokenDutiesAreRefused : Prop :=
  (∀ (s : State) (r : Refusal), Inv s → step s = .refused r →
      (r = .bufferWrittenDuringScan ∧ s.st = .scanning ∧ ∃ a h, s.host = a :: h ∧ ((∃ o v, a = .store o v) ∨ ∃ bs, a = .place bs)) ∨
      (r = .lenBeyondMax ∧ s.st = .done ∧ s.start = true ∧ Config.lenMax < s.lenIn) ∨
      (r = .lenBeyondMemory ∧ s.st = .done ∧ s.start = true ∧ s.buf.extent < s.lenIn)) ∧
    ∀ (s : State) (f : Fault), step s ≠ .fault f

/-- Only the bytes of the read table can influence a step (20_memory.md R34, R43; 40_tag_skip.md R63 (c)). -/
def Obligations.UnreadBytesChangeNothing : Prop :=
  ∀ (s : State) (m : Memory), s.host = [] →
    (s.rst = false → s.st = .scanning → s.len < s.cur + 4 → step (s.setBuf m) = onNext (State.setBuf m) (step s)) ∧
    (s.st = .scanning → (∀ k, k < 4 → m.read (s.cur + k) = s.buf.read (s.cur + k)) →
      step (s.setBuf m) = onNext (State.setBuf m) (step s)) ∧
    (s.st = .done → s.start = true → LaunchDuty s → LaunchDuty (s.setBuf m) → (∀ k, k < 3 → m.read k = s.buf.read k) →
      (tagPresent s.buf s.lenIn 0 = true → ∀ k, 6 ≤ k → k < 10 → m.read k = s.buf.read k) →
      step (s.setBuf m) = onNext (State.setBuf m) (step s))

/-- Every launch that keeps the duties reaches Done with the count of CountFrames (R101).
The host drops start after LAUNCH (R128 H1); a start held through END (R129, 93 X4) is not covered. -/
def Obligations.ScanComputesCountFrames : Prop :=
  ∀ s : State, s.host = [] → s.rst = false → s.st = .done → s.start = true → LaunchDuty s →
    ∃ u : State, step s = .next u ∧ u.st = .scanning ∧
      ∀ l : Nat, ∃ (n : Nat) (t : State),
        (∀ k, k < n → ∃ v : State, Sys2Proof.core.run (k + 1) { u with start := false, lenIn := l } = .next v ∧ v.st = .scanning) ∧
        (∀ m, Sys2Proof.core.run (n + 1 + m) { u with start := false, lenIn := l } = .next t) ∧
        t.st = .done ∧ t.cnt = countFrames (bytesOf s.buf) s.lenIn ∧ t.buf = s.buf

/-- A scan ends after at most LEN - 3 - CUR0 window steps and one END step (R102). -/
def Obligations.ScanTerminatesWithinBound : Prop :=
  ∀ s : State, Inv s → s.host = [] → s.rst = false → s.st = .scanning →
    ∃ (n : Nat) (t : State), n ≤ s.len - 3 - s.cur ∧ Sys2Proof.core.run (n + 1) s = .next t ∧ t.st = .done ∧
      ∀ k, k < n → ∃ u v : State, Sys2Proof.core.run k s = .next u ∧ Sys2Proof.core.run (k + 1) s = .next v ∧
        v.st = .scanning ∧ u.cur + 4 ≤ s.len ∧ u.cur + 1 ≤ v.cur

/-- A buffer without a sync candidate gives 0 (R73). -/
def Obligations.NoSyncMeansZero : Prop :=
  ∀ (byte : Nat → Byte) (len : Nat), NoCandidate byte len → countFrames byte len = 0

/-- The result is at most LEN - 3 and at most (LEN - 4) // 96 + 1 (R107). -/
def Obligations.CountIsBounded : Prop :=
  ∀ (byte : Nat → Byte) (len : Nat),
    countFrames byte len ≤ len - 3 ∧ (4 ≤ len → countFrames byte len ≤ (len - 4) / 96 + 1) ∧ (len < 4 → countFrames byte len = 0) ∧
    (NoCandidate byte len → countFrames byte len = 0) ∧ (len < initialCursor byte len + 4 → countFrames byte len = 0)

/-- The result depends on the bytes below LEN only (10_state.md R26; 20_memory.md R44; 44_driving_loop.md R105). -/
def Obligations.CountDependsOnlyOnTheBuffer : Prop :=
  ∀ (byte byte' : Nat → Byte) (len : Nat), (∀ i, i < len → byte i = byte' i) → countFrames byte len = countFrames byte' len

/-- A tag that reaches the end of the buffer gives an END step and count 0 (40_tag_skip.md R64; 44_driving_loop.md R95, R96, R106; 70_reset_and_hazards.md R128).
The host drops start after LAUNCH (R128 H1); a start held through END (R129, 93 X4) is not covered. -/
def Obligations.OversizedTagGivesZero : Prop :=
  ∀ (s : State) (size : Nat), s.host = [] → s.rst = false → s.st = .done → s.start = true → LaunchDuty s →
    tagPresent s.buf s.lenIn 0 = true →
    size = ssafe (bytesOf s.buf 6) (bytesOf s.buf 7) (bytesOf s.buf 8) (bytesOf s.buf 9) → s.lenIn < 10 + size + 4 →
    ∃ u : State, step s = .next u ∧ u.st = .scanning ∧ u.cur = 10 + size ∧
      ∀ l m : Nat, Sys2Proof.core.run (m + 1) { u with start := false, lenIn := l } =
        .next { s with len := s.lenIn, cnt := 0, cur := 10 + size, st := .done, start := false, lenIn := l }

/-- A header whose frame runs past the end of the buffer is counted (R103). -/
def Obligations.TruncatedLastFrameIsCounted : Prop :=
  ∀ (s : State) (w : Window) (n : Nat), s.host = [] → s.rst = false → s.st = .scanning → s.cur + 4 ≤ s.len →
    readWindow s = some w → syncHit s = true → validate w = .accept n → s.len < s.cur + n + 4 →
    Sys2Proof.core.run 2 s = .next { s with cnt := s.cnt + 1, cur := s.cur + n, st := .done }

/-- A host that keeps its duties loads any buffer, launches it, drops start and finds its count (44_driving_loop.md R95, R101, R105, R106; 70_reset_and_hazards.md R128).
The host's list of actions is the model's choice, log entry 4. -/
def Obligations.LoadedBufferIsCounted : Prop :=
  ∀ (s : State) (bs : List Byte) (l : Nat), s.st = .done →
    s.host = [.place bs, .drive false true bs.length, .wait, .drive false false l] → bs.length ≤ Config.lenMax →
    ∃ (n : Nat) (t : State), (∀ k, k < n + 2 → ∃ u : State, Sys2Proof.core.run (k + 3) s = .next u ∧ u.st = .scanning) ∧
      (∀ m, Sys2Proof.core.run (n + 5 + m) s = .next t) ∧ t.doneOut = true ∧
      t.countOut = countFrames (fun i => (bs[i]?).getD 0#8) bs.length ∧ ∀ i, t.buf.read i = bs[i]?
end

