-- ==== Sys2Proof/Laws/Decode.lean ====
section
/-! SUPPORT. Splitting and joining of fields undo each other, and so do bytes and numbers. -/

namespace Sys2Proof

theorem natToBytes_length : ∀ n v, (natToBytes n v).length = n
  | 0, _ => rfl
  | n + 1, v => by simp [natToBytes, natToBytes_length n v]

/-- The bytes of a number spell it back, as far as they reach. -/
theorem beNat_natToBytes : ∀ n v, beNat (natToBytes n v) = v % 256 ^ n
  | 0, v => by simp [natToBytes, beNat, Nat.mod_one]
  | n + 1, v => by
    simp only [natToBytes, beNat, natToBytes_length, beNat_natToBytes n v, BitVec.toNat_ofNat]
    have e : (256 : Nat) ^ (n + 1) = 256 ^ n * 256 := pow_succ 256 n
    rw [e, Nat.mod_mul, Nat.add_comm]

theorem beNat_lt : ∀ bs : List Byte, beNat bs < 256 ^ bs.length
  | [] => by simp [beNat]
  | b :: bs => by
    have h := beNat_lt bs
    have hb := b.isLt
    simp only [beNat, List.length_cons, Nat.pow_succ]
    nlinarith [Nat.zero_le (256 ^ bs.length)]

/-- A list of bytes is the bytes of the number it spells. -/
theorem natToBytes_beNat : ∀ bs : List Byte, natToBytes bs.length (beNat bs) = bs
  | [] => rfl
  | b :: bs => by
    have h := beNat_lt bs
    have hp : 0 < 256 ^ bs.length := Nat.pow_pos (by decide)
    have hd : (256 ^ bs.length * b.toNat + beNat bs) / 256 ^ bs.length = b.toNat := by
      rw [Nat.add_comm, Nat.add_mul_div_left _ _ hp, Nat.div_eq_of_lt h, Nat.zero_add]
    have aux : ∀ n v w, v % 256 ^ n = w % 256 ^ n → natToBytes n v = natToBytes n w := by
      intro n
      induction n with
      | zero => intros; rfl
      | succ n ih =>
        intro v w e
        rw [Nat.pow_succ] at e
        have e1 : v % 256 ^ n = w % 256 ^ n := by
          rw [← Nat.mod_mul_right_mod v (256 ^ n) 256, ← Nat.mod_mul_right_mod w (256 ^ n) 256, e]
        have e2 : v / 256 ^ n % 256 = w / 256 ^ n % 256 := by
          rw [← Nat.mod_mul_right_div_self, ← Nat.mod_mul_right_div_self, e]
        simp only [natToBytes, ih v w e1, List.cons.injEq, and_true]
        apply BitVec.eq_of_toNat_eq
        simpa using e2
    simp only [beNat, List.length_cons, natToBytes, hd, BitVec.ofNat_toNat, BitVec.setWidth_eq, List.cons.injEq, true_and]
    rw [aux bs.length _ (beNat bs) (by simp), natToBytes_beNat bs]

/-- The number a joined window is. -/
theorem joinH_toNat (f : FormatH) : (joinH f).toNat =
    0x200000 * f.syncWord.toNat + 0x80000 * f.mpegVersion.toNat + 0x20000 * f.layer.toNat + 0x10000 * f.bit16.toNat +
      0x1000 * f.bitrateIndex.toNat + 0x400 * f.sampleRateIndex.toNat + 0x200 * f.padding.toNat + f.low.toNat := by
  have := f.syncWord.isLt; have := f.mpegVersion.isLt; have := f.layer.isLt; have := f.bit16.isLt
  have := f.bitrateIndex.isLt; have := f.sampleRateIndex.isLt; have := f.padding.isLt; have := f.low.isLt
  rw [joinH, BitVec.toNat_ofNat, Nat.mod_eq_of_lt]
  omega

/-- The fields of a window as quotients and remainders. -/
theorem splitH_toNat (w : Window) : (splitH w).syncWord.toNat = w.toNat / 0x200000 ∧
    (splitH w).mpegVersion.toNat = w.toNat / 0x80000 % 4 ∧ (splitH w).layer.toNat = w.toNat / 0x20000 % 4 ∧
    (splitH w).bit16.toNat = w.toNat / 0x10000 % 2 ∧ (splitH w).bitrateIndex.toNat = w.toNat / 0x1000 % 16 ∧
    (splitH w).sampleRateIndex.toNat = w.toNat / 0x400 % 4 ∧ (splitH w).padding.toNat = w.toNat / 0x200 % 2 ∧
    (splitH w).low.toNat = w.toNat % 0x200 := by
  have := w.isLt
  simp only [splitH, BitVec.extractLsb'_toNat, Nat.shiftRight_eq_div_pow, Nat.reducePow, Nat.div_one, and_self, and_true]
  omega

/-- The fields of a joined window are the fields (30_encoding.md R46: they do not overlap). -/
theorem splitH_joinH (f : FormatH) : splitH (joinH f) = f := by
  have h := splitH_toNat (joinH f)
  rw [joinH_toNat] at h
  generalize splitH (joinH f) = g at h ⊢
  obtain ⟨s, v, l, u, b, r, p, x⟩ := f
  obtain ⟨s', v', l', u', b', r', p', x'⟩ := g
  have := s.isLt; have := v.isLt; have := l.isLt; have := u.isLt; have := b.isLt; have := r.isLt; have := p.isLt; have := x.isLt
  simp only [FormatH.mk.injEq, ← BitVec.toNat_inj] at h ⊢
  omega

/-- A window is the join of its fields (30_encoding.md R46: with the ten unnamed bits they cover it). -/
theorem joinH_splitH (w : Window) : joinH (splitH w) = w := by
  have := splitH_toNat w
  have := w.isLt
  apply BitVec.eq_of_toNat_eq
  rw [joinH_toNat]
  omega

theorem joinT_toNat (f : FormatT) : (joinT f).toNat =
    0x100000000000000 * f.marker.toNat + 0x10000000000 * f.version.toNat + 0x100000000 * f.flags.toNat +
      0x1000000 * f.size0.toNat + 0x10000 * f.size1.toNat + 0x100 * f.size2.toNat + f.size3.toNat := by
  have := f.marker.isLt; have := f.version.isLt; have := f.flags.isLt; have := f.size0.isLt
  have := f.size1.isLt; have := f.size2.isLt; have := f.size3.isLt
  rw [joinT, BitVec.toNat_ofNat, Nat.mod_eq_of_lt]
  omega

theorem splitT_toNat (t : TagHeader) : (splitT t).marker.toNat = t.toNat / 0x100000000000000 ∧
    (splitT t).version.toNat = t.toNat / 0x10000000000 % 0x10000 ∧ (splitT t).flags.toNat = t.toNat / 0x100000000 % 0x100 ∧
    (splitT t).size0.toNat = t.toNat / 0x1000000 % 0x100 ∧ (splitT t).size1.toNat = t.toNat / 0x10000 % 0x100 ∧
    (splitT t).size2.toNat = t.toNat / 0x100 % 0x100 ∧ (splitT t).size3.toNat = t.toNat % 0x100 := by
  have := t.isLt
  simp only [splitT, BitVec.extractLsb'_toNat, Nat.shiftRight_eq_div_pow, Nat.reducePow, Nat.div_one, and_self, and_true]
  omega
theorem splitT_joinT (f : FormatT) : splitT (joinT f) = f := by
  have h := splitT_toNat (joinT f)
  rw [joinT_toNat] at h
  generalize splitT (joinT f) = g at h ⊢
  obtain ⟨m, v, g1, a, b, c, d⟩ := f
  obtain ⟨m', v', g', a', b', c', d'⟩ := g
  have := m.isLt; have := v.isLt; have := g1.isLt; have := a.isLt; have := b.isLt; have := c.isLt; have := d.isLt
  simp only [FormatT.mk.injEq, ← BitVec.toNat_inj] at h ⊢
  omega

theorem joinT_splitT (t : TagHeader) : joinT (splitT t) = t := by
  have := splitT_toNat t
  have := t.isLt
  apply BitVec.eq_of_toNat_eq
  rw [joinT_toNat]
  omega

@[simp] theorem decode_window_bytes (w : Window) : decode .window (natToBytes 4 w.toNat) = .ok (decodeWindow w) := by
  simp [decode, natToBytes_length, beNat_natToBytes]
  rw [Nat.mod_eq_of_lt w.isLt]; simp

@[simp] theorem decode_tag_bytes (t : TagHeader) : decode .tagHeader (natToBytes 10 t.toNat) = .ok (decodeTag (some t)) := by
  simp [decode, natToBytes_length, beNat_natToBytes]
  rw [Nat.mod_eq_of_lt t.isLt]; simp

@[simp] theorem decodeWindow_joinH (f : FormatH) : decodeWindow (joinH f) = classifyH f := by
  rw [decodeWindow, splitH_joinH]

end Sys2Proof
end

