-- ==== Sys2Proof/Laws/State.lean ====
section
/-! SUPPORT. What each update does to each field of State, one lemma a field. -/

namespace Sys2Proof.Machine

@[simp] theorem State.advance_buf (n : Nat) (s : State) : (s.advance n).buf = s.buf := rfl
@[simp] theorem State.advance_len (n : Nat) (s : State) : (s.advance n).len = s.len := rfl
@[simp] theorem State.advance_cur (n : Nat) (s : State) : (s.advance n).cur = s.cur + n := rfl
@[simp] theorem State.advance_cnt (n : Nat) (s : State) : (s.advance n).cnt = s.cnt := rfl
@[simp] theorem State.advance_st (n : Nat) (s : State) : (s.advance n).st = s.st := rfl
@[simp] theorem State.advance_rst (n : Nat) (s : State) : (s.advance n).rst = s.rst := rfl
@[simp] theorem State.advance_start (n : Nat) (s : State) : (s.advance n).start = s.start := rfl
@[simp] theorem State.advance_lenIn (n : Nat) (s : State) : (s.advance n).lenIn = s.lenIn := rfl
@[simp] theorem State.advance_host (n : Nat) (s : State) : (s.advance n).host = s.host := rfl
@[simp] theorem State.countFrame_buf (n : Nat) (s : State) : (s.countFrame n).buf = s.buf := rfl
@[simp] theorem State.countFrame_len (n : Nat) (s : State) : (s.countFrame n).len = s.len := rfl
@[simp] theorem State.countFrame_cur (n : Nat) (s : State) : (s.countFrame n).cur = s.cur + n := rfl
@[simp] theorem State.countFrame_cnt (n : Nat) (s : State) : (s.countFrame n).cnt = s.cnt + 1 := rfl
@[simp] theorem State.countFrame_st (n : Nat) (s : State) : (s.countFrame n).st = s.st := rfl
@[simp] theorem State.countFrame_rst (n : Nat) (s : State) : (s.countFrame n).rst = s.rst := rfl
@[simp] theorem State.countFrame_start (n : Nat) (s : State) : (s.countFrame n).start = s.start := rfl
@[simp] theorem State.countFrame_lenIn (n : Nat) (s : State) : (s.countFrame n).lenIn = s.lenIn := rfl
@[simp] theorem State.countFrame_host (n : Nat) (s : State) : (s.countFrame n).host = s.host := rfl
@[simp] theorem State.finish_buf (s : State) : (s.finish).buf = s.buf := rfl
@[simp] theorem State.finish_len (s : State) : (s.finish).len = s.len := rfl
@[simp] theorem State.finish_cur (s : State) : (s.finish).cur = s.cur := rfl
@[simp] theorem State.finish_cnt (s : State) : (s.finish).cnt = s.cnt := rfl
@[simp] theorem State.finish_st (s : State) : (s.finish).st = .done := rfl
@[simp] theorem State.finish_rst (s : State) : (s.finish).rst = s.rst := rfl
@[simp] theorem State.finish_start (s : State) : (s.finish).start = s.start := rfl
@[simp] theorem State.finish_lenIn (s : State) : (s.finish).lenIn = s.lenIn := rfl
@[simp] theorem State.finish_host (s : State) : (s.finish).host = s.host := rfl
@[simp] theorem State.startScan_buf (n : Nat) (s : State) : (s.startScan n).buf = s.buf := rfl
@[simp] theorem State.startScan_len (n : Nat) (s : State) : (s.startScan n).len = s.lenIn := rfl
@[simp] theorem State.startScan_cur (n : Nat) (s : State) : (s.startScan n).cur = n := rfl
@[simp] theorem State.startScan_cnt (n : Nat) (s : State) : (s.startScan n).cnt = 0 := rfl
@[simp] theorem State.startScan_st (n : Nat) (s : State) : (s.startScan n).st = .scanning := rfl
@[simp] theorem State.startScan_rst (n : Nat) (s : State) : (s.startScan n).rst = s.rst := rfl
@[simp] theorem State.startScan_start (n : Nat) (s : State) : (s.startScan n).start = s.start := rfl
@[simp] theorem State.startScan_lenIn (n : Nat) (s : State) : (s.startScan n).lenIn = s.lenIn := rfl
@[simp] theorem State.startScan_host (n : Nat) (s : State) : (s.startScan n).host = s.host := rfl
@[simp] theorem State.resetRegs_buf (s : State) : (s.resetRegs).buf = s.buf := rfl
@[simp] theorem State.resetRegs_len (s : State) : (s.resetRegs).len = 0 := rfl
@[simp] theorem State.resetRegs_cur (s : State) : (s.resetRegs).cur = 0 := rfl
@[simp] theorem State.resetRegs_cnt (s : State) : (s.resetRegs).cnt = 0 := rfl
@[simp] theorem State.resetRegs_st (s : State) : (s.resetRegs).st = .done := rfl
@[simp] theorem State.resetRegs_rst (s : State) : (s.resetRegs).rst = s.rst := rfl
@[simp] theorem State.resetRegs_start (s : State) : (s.resetRegs).start = s.start := rfl
@[simp] theorem State.resetRegs_lenIn (s : State) : (s.resetRegs).lenIn = s.lenIn := rfl
@[simp] theorem State.resetRegs_host (s : State) : (s.resetRegs).host = s.host := rfl
@[simp] theorem State.setBuf_buf (m : Memory) (s : State) : (s.setBuf m).buf = m := rfl
@[simp] theorem State.setBuf_len (m : Memory) (s : State) : (s.setBuf m).len = s.len := rfl
@[simp] theorem State.setBuf_cur (m : Memory) (s : State) : (s.setBuf m).cur = s.cur := rfl
@[simp] theorem State.setBuf_cnt (m : Memory) (s : State) : (s.setBuf m).cnt = s.cnt := rfl
@[simp] theorem State.setBuf_st (m : Memory) (s : State) : (s.setBuf m).st = s.st := rfl
@[simp] theorem State.setBuf_rst (m : Memory) (s : State) : (s.setBuf m).rst = s.rst := rfl
@[simp] theorem State.setBuf_start (m : Memory) (s : State) : (s.setBuf m).start = s.start := rfl
@[simp] theorem State.setBuf_lenIn (m : Memory) (s : State) : (s.setBuf m).lenIn = s.lenIn := rfl
@[simp] theorem State.setBuf_host (m : Memory) (s : State) : (s.setBuf m).host = s.host := rfl
@[simp] theorem State.drive_buf (r b : Bool) (l : Nat) (s : State) : (s.drive r b l).buf = s.buf := rfl
@[simp] theorem State.drive_len (r b : Bool) (l : Nat) (s : State) : (s.drive r b l).len = s.len := rfl
@[simp] theorem State.drive_cur (r b : Bool) (l : Nat) (s : State) : (s.drive r b l).cur = s.cur := rfl
@[simp] theorem State.drive_cnt (r b : Bool) (l : Nat) (s : State) : (s.drive r b l).cnt = s.cnt := rfl
@[simp] theorem State.drive_st (r b : Bool) (l : Nat) (s : State) : (s.drive r b l).st = s.st := rfl
@[simp] theorem State.drive_rst (r b : Bool) (l : Nat) (s : State) : (s.drive r b l).rst = r := rfl
@[simp] theorem State.drive_start (r b : Bool) (l : Nat) (s : State) : (s.drive r b l).start = b := rfl
@[simp] theorem State.drive_lenIn (r b : Bool) (l : Nat) (s : State) : (s.drive r b l).lenIn = l := rfl
@[simp] theorem State.drive_host (r b : Bool) (l : Nat) (s : State) : (s.drive r b l).host = s.host := rfl
@[simp] theorem State.setHost_buf (h : List HostAction) (s : State) : (s.setHost h).buf = s.buf := rfl
@[simp] theorem State.setHost_len (h : List HostAction) (s : State) : (s.setHost h).len = s.len := rfl
@[simp] theorem State.setHost_cur (h : List HostAction) (s : State) : (s.setHost h).cur = s.cur := rfl
@[simp] theorem State.setHost_cnt (h : List HostAction) (s : State) : (s.setHost h).cnt = s.cnt := rfl
@[simp] theorem State.setHost_st (h : List HostAction) (s : State) : (s.setHost h).st = s.st := rfl
@[simp] theorem State.setHost_rst (h : List HostAction) (s : State) : (s.setHost h).rst = s.rst := rfl
@[simp] theorem State.setHost_start (h : List HostAction) (s : State) : (s.setHost h).start = s.start := rfl
@[simp] theorem State.setHost_lenIn (h : List HostAction) (s : State) : (s.setHost h).lenIn = s.lenIn := rfl
@[simp] theorem State.setHost_host (h : List HostAction) (s : State) : (s.setHost h).host = h := rfl

@[simp] theorem State.setHost_self (s : State) : s.setHost s.host = s := rfl

end Sys2Proof.Machine
end

