-- ==== Sys2Proof/Laws/Memory.lean ====
section
/-! SUPPORT. The laws of the memory behind the port and of the reads of BUF. -/

namespace Sys2Proof.Machine

/-! ### Reads and writes -/

theorem Memory.read_write_same (m : Memory) (a : Nat) (v : Byte) : (m.write a v).read a = some v := by
  induction m with
  | nil => simp [Memory.write, Memory.read]
  | cons c m ih =>
    obtain ⟨b, w⟩ := c
    unfold Memory.write
    split
    · simp [Memory.read]
    · split
      · simp [Memory.read]
      · simp [Memory.read, ih]; omega

theorem Memory.read_write_other (m : Memory) (a a' : Nat) (v : Byte) (h : a' ≠ a) : (m.write a v).read a' = m.read a' := by
  induction m with
  | nil => simp [Memory.write, Memory.read]; omega
  | cons c m ih =>
    obtain ⟨b, w⟩ := c
    unfold Memory.write
    split
    · simp [Memory.read]; omega
    · split
      · subst_vars; simp only [Memory.read]; rw [if_neg (by omega), if_neg (by omega)]
      · simp [Memory.read, ih]

theorem Memory.write_offsets (m : Memory) (a : Nat) (v : Byte) : ∀ c ∈ m.write a v, c.1 = a ∨ c ∈ m := by
  induction m with
  | nil => simp [Memory.write]
  | cons c m ih =>
    obtain ⟨b, w⟩ := c
    intro d hd
    unfold Memory.write at hd
    split at hd
    · simp at hd ⊢
      obtain rfl | h := hd
      · exact .inl rfl
      · exact .inr h
    · split at hd
      · simp at hd ⊢
        obtain rfl | h := hd
        · exact .inl rfl
        · exact .inr (.inr h)
      · simp at hd ⊢
        obtain rfl | h := hd
        · exact .inr (.inl rfl)
        · obtain h | h := ih d h
          · exact .inl h
          · exact .inr (.inr h)

/-- A write keeps the canonical form. -/
theorem Memory.wf_write (m : Memory) (a : Nat) (v : Byte) (h : m.wf) : (m.write a v).wf := by
  induction m with
  | nil => simp [Memory.write, Memory.wf]
  | cons c m ih =>
    obtain ⟨b, w⟩ := c
    obtain ⟨hb, hm⟩ := List.pairwise_cons.mp h
    unfold Memory.write
    split
    · rename_i hab
      refine List.pairwise_cons.mpr ⟨fun d hd => ?_, h⟩
      obtain rfl | hd := List.mem_cons.mp hd
      · exact hab
      · exact Nat.lt_trans hab (hb d hd)
    · split
      · subst_vars; exact List.pairwise_cons.mpr ⟨hb, hm⟩
      · refine List.pairwise_cons.mpr ⟨fun d hd => ?_, ih hm⟩
        obtain hd | hd := Memory.write_offsets m a v d hd
        · simp only [hd]; omega
        · exact hb d hd

theorem Memory.wf_writeBytes (bs : List Byte) : ∀ (m : Memory) (a : Nat), m.wf → (m.writeBytes a bs).wf := by
  induction bs with
  | nil => exact fun _ _ h => h
  | cons b bs ih => exact fun m a h => ih _ _ (Memory.wf_write m a b h)

theorem Memory.ofBytes_offsets (bs : List Byte) : ∀ a, ∀ c ∈ Memory.ofBytes a bs, a ≤ c.1 := by
  induction bs with
  | nil => simp [Memory.ofBytes]
  | cons b bs ih =>
    intro a c hc
    obtain rfl | hc := List.mem_cons.mp hc
    · exact Nat.le_refl a
    · exact Nat.le_of_succ_le (ih (a + 1) c hc)

/-- A placed buffer is in the canonical form. -/
theorem Memory.wf_ofBytes (bs : List Byte) : ∀ a, (Memory.ofBytes a bs).wf := by
  induction bs with
  | nil => exact fun _ => List.Pairwise.nil
  | cons b bs ih => exact fun a => List.pairwise_cons.mpr ⟨fun c hc => Memory.ofBytes_offsets bs (a + 1) c hc, ih (a + 1)⟩

/-- A placed buffer reads as its bytes. -/
theorem Memory.read_ofBytes (bs : List Byte) : ∀ a k, (Memory.ofBytes a bs).read (a + k) = bs[k]? := by
  induction bs with
  | nil => intro a k; simp [Memory.ofBytes, Memory.read]
  | cons b bs ih =>
    intro a k
    cases k with
    | zero => simp [Memory.ofBytes, Memory.read]
    | succ k =>
      simp only [Memory.ofBytes, Memory.read]
      rw [if_neg (by omega), show a + (k + 1) = a + 1 + k by omega, ih]; rfl

theorem Memory.runEnd_ofBytes (bs : List Byte) : ∀ a, Memory.runEnd a (Memory.ofBytes a bs) = a + bs.length := by
  induction bs with
  | nil => intro a; rfl
  | cons b bs ih => intro a; simp [Memory.ofBytes, Memory.runEnd, ih]; omega

/-- A placed buffer is behind the port to its last byte. -/
theorem Memory.extent_ofBytes (bs : List Byte) : (Memory.ofBytes 0 bs).extent = bs.length := by
  simpa [Memory.extent] using Memory.runEnd_ofBytes bs 0

/-! ### How far the memory reaches -/

theorem Memory.le_runEnd (m : Memory) : ∀ k, k ≤ Memory.runEnd k m := by
  induction m with
  | nil => exact fun k => Nat.le_refl k
  | cons c m ih =>
    intro k
    obtain ⟨a, v⟩ := c
    unfold Memory.runEnd
    split
    · exact Nat.le_of_succ_le (ih (k + 1))
    · exact Nat.le_refl k

theorem Memory.read_of_lt_runEnd (m : Memory) : ∀ k i, k ≤ i → i < Memory.runEnd k m → (m.read i).isSome := by
  induction m with
  | nil => intro k i h1 h2; exact absurd h2 (by simp [Memory.runEnd]; omega)
  | cons c m ih =>
    obtain ⟨a, v⟩ := c
    intro k i h1 h2
    unfold Memory.runEnd at h2
    unfold Memory.read
    split at h2
    · split
      · rfl
      · exact ih (k + 1) i (by omega) h2
    · omega

/-- Every offset below the extent is behind the port. -/
theorem Memory.read_of_lt_extent {m : Memory} {i : Nat} (h : i < m.extent) : m.read i = some ((m.read i).getD 0#8) := by
  obtain ⟨b, hb⟩ := Option.isSome_iff_exists.mp (Memory.read_of_lt_runEnd m 0 i (Nat.zero_le i) h)
  simp [hb]

/-- In a canonical memory, a run of readable offsets lies below the end of the run. -/
theorem Memory.runEnd_of_reads (m : Memory) : ∀ k n, m.wf → (∀ c ∈ m, k ≤ c.1) →
    (∀ i, k ≤ i → i < n → (m.read i).isSome) → k ≤ n → n ≤ Memory.runEnd k m := by
  induction m with
  | nil =>
    intro k n _ _ h hk
    by_contra hn
    have := h k (Nat.le_refl k) (by simp [Memory.runEnd] at hn; omega)
    simp [Memory.read] at this
  | cons c m ih =>
    obtain ⟨a, v⟩ := c
    intro k n hw hlo h hk
    obtain ⟨hb, hm⟩ := List.pairwise_cons.mp hw
    obtain rfl | hkn := Nat.eq_or_lt_of_le hk
    · exact Memory.le_runEnd _ _
    have hka : k ≤ a := hlo (a, v) (by simp)
    have hak : a = k := by
      by_contra hne
      have hk' := h k (Nat.le_refl k) hkn
      simp only [Memory.read, if_neg hne] at hk'
      have : ∀ (l : Memory), (∀ c ∈ l, k < c.1) → (Memory.read l k).isSome → False := by
        intro l
        induction l with
        | nil => simp [Memory.read]
        | cons d l ihl =>
          obtain ⟨e, u⟩ := d
          intro hl hr
          have he : k < e := hl (e, u) (by simp)
          simp only [Memory.read, if_neg (show e ≠ k by omega)] at hr
          exact ihl (fun c hc => hl c (by simp [hc])) hr
      exact this m (fun c hc => by have := hb c hc; simp only at this; omega) hk'
    subst hak
    simp only [Memory.runEnd, if_pos]
    refine ih (a + 1) n hm (fun c hc => hb c hc) (fun i hi hin => ?_) hkn
    have := h i (by omega) hin
    simpa only [Memory.read, if_neg (show a ≠ i by omega)] using this

theorem Memory.le_extent_of_reads {m : Memory} {n : Nat} (hw : m.wf) (h : ∀ i, i < n → (m.read i).isSome) : n ≤ m.extent :=
  Memory.runEnd_of_reads m 0 n hw (fun _ _ => Nat.zero_le _) (fun i _ hi => h i hi) (Nat.zero_le n)

/-! ### Reads of BUF -/

theorem bufByte_of_lt {m : Memory} {len i : Nat} (h : i < len) : bufByte m len i = m.read i := if_pos h

theorem bufByte_eq_some {m : Memory} {len i : Nat} {b : Byte} : bufByte m len i = some b ↔ i < len ∧ m.read i = some b := by
  unfold bufByte; split <;> simp_all

/-- A read splits into two at any place (20_memory.md R33, R35, R36). -/
theorem memRead_add (m : Memory) (len a k : Nat) : ∀ n, memRead m len a (k + n) =
    (memRead m len a k).bind fun hi => (memRead m len (a + k) n).map fun lo => 256 ^ n * hi + lo := by
  intro n
  induction n with
  | zero => cases memRead m len a k <;> simp [memRead]
  | succ n ih =>
    have e : k + (n + 1) = (k + n) + 1 := by omega
    rw [e]
    simp only [memRead, ih]
    rw [show a + (k + n) = a + k + n by omega]
    cases memRead m len a k <;> cases memRead m len (a + k) n <;> cases bufByte m len (a + k + n) <;> simp
    ring

/-- A read depends on the bytes it reads and on nothing else. -/
theorem memRead_congr {m m' : Memory} {len len' a : Nat} : ∀ n, (∀ k, k < n → bufByte m len (a + k) = bufByte m' len' (a + k)) →
    memRead m len a n = memRead m' len' a n
  | 0, _ => rfl
  | n + 1, h => by
    simp only [memRead]
    rw [memRead_congr n (fun k hk => h k (by omega)), h n (by omega)]

/-- The 4-byte read, as its bytes (30_encoding.md R47). -/
theorem memRead_four (m : Memory) (len a : Nat) {b0 b1 b2 b3 : Byte} (h0 : bufByte m len a = some b0)
    (h1 : bufByte m len (a + 1) = some b1) (h2 : bufByte m len (a + 2) = some b2) (h3 : bufByte m len (a + 3) = some b3) :
    memRead m len a 4 = some (0x1000000 * b0.toNat + 0x10000 * b1.toNat + 0x100 * b2.toNat + b3.toNat) := by
  simp only [memRead, Nat.add_zero, h0, h1, h2, h3, Option.some.injEq]
  omega

/-- Reads below the extent are answered. -/
theorem memRead_isSome {m : Memory} {len a : Nat} : ∀ n, a + n ≤ len → len ≤ m.extent → (memRead m len a n).isSome
  | 0, _, _ => rfl
  | n + 1, h, hx => by
    obtain ⟨v, hv⟩ := Option.isSome_iff_exists.mp (memRead_isSome (m := m) (len := len) (a := a) n (by omega) hx)
    have hb : bufByte m len (a + n) = some ((m.read (a + n)).getD 0#8) := by
      rw [bufByte_of_lt (by omega)]; exact Memory.read_of_lt_extent (by omega)
    simp [memRead, hv, hb]

/-- An answered read is in bounds, and so are all its bytes. -/
theorem bufByte_of_memRead {m : Memory} {len a v : Nat} : ∀ n, memRead m len a n = some v → ∀ k, k < n →
    (bufByte m len (a + k)).isSome
  | 0, _, k, hk => absurd hk (by omega)
  | n + 1, h, k, hk => by
    simp only [memRead] at h
    split at h
    · rename_i u b hu hb
      obtain rfl | hlt := Nat.eq_or_lt_of_le (Nat.le_of_lt_succ hk)
      · simp [hb]
      · exact bufByte_of_memRead n hu k hlt
    · simp at h

end Sys2Proof.Machine
end

