-- ==== Sys2Proof/Laws/Exec.lean ====
section
/-! SUPPORT. What the shared operations can answer, and what a run instruction can do. -/

namespace Sys2Proof.Machine

/-! ### Shared operations -/

theorem launch_of_duty {s : State} (h : LaunchDuty s) (n : Nat) : launch n s = .next (s.startScan n) := by
  unfold launch
  rw [if_neg (Nat.not_lt.mpr h.1), if_neg (Nat.not_lt.mpr h.2)]

/-- A launch is a next state exactly where the host keeps its duty. -/
theorem launch_eq_next {n : Nat} {s t : State} : launch n s = .next t ↔ LaunchDuty s ∧ t = s.startScan n := by
  constructor
  · intro h
    unfold launch at h
    split at h
    · cases h
    · split at h
      · cases h
      · cases h
        exact ⟨⟨by omega, by omega⟩, rfl⟩
  · rintro ⟨h, rfl⟩
    exact launch_of_duty h n

/-- The reasons a launch is refused for. -/
theorem launch_eq_refused {n : Nat} {s : State} {r : Refusal} (h : launch n s = .refused r) :
    (r = .lenBeyondMax ∧ Config.lenMax < s.lenIn) ∨ (r = .lenBeyondMemory ∧ s.buf.extent < s.lenIn) := by
  unfold launch at h
  split at h
  · cases h; exact .inl ⟨rfl, ‹_›⟩
  · split at h
    · cases h; exact .inr ⟨rfl, ‹_›⟩
    · cases h

/-- Past a broken duty, the cursor does not matter. -/
theorem launch_cursor {s : State} (h : ¬ LaunchDuty s) (n k : Nat) : launch n s = launch k s := by
  unfold launch
  split
  · rfl
  · split
    · rfl
    · exact absurd ⟨by omega, by omega⟩ h

/-! ### The tables -/

theorem bitVec4_cases : ∀ b : BitVec 4, b = 0#4 ∨ b = 1#4 ∨ b = 2#4 ∨ b = 3#4 ∨ b = 4#4 ∨ b = 5#4 ∨ b = 6#4 ∨ b = 7#4 ∨ b = 8#4 ∨
    b = 9#4 ∨ b = 10#4 ∨ b = 11#4 ∨ b = 12#4 ∨ b = 13#4 ∨ b = 14#4 ∨ b = 15#4 := by decide

theorem bitrateKbps_eq_zero : ∀ b : BitVec 4, bitrateKbps b = 0 ↔ b = 0#4 ∨ b = 15#4 := by decide

theorem sampleRateHz_eq_zero : ∀ r : BitVec 2, sampleRateHz r = 0 ↔ r = 3#2 := by decide

/-- Usable indices give sizes between the smallest and the largest frame. -/
theorem headerFrameSize_bounds : ∀ (b : BitVec 4) (r : BitVec 2) (p : BitVec 1), b ≠ 0#4 → b ≠ 15#4 → r ≠ 3#2 →
    96 ≤ headerFrameSize b r p ∧ headerFrameSize b r p ≤ 1441 := by decide

theorem sizeOk_of_bounds {n : Nat} (h1 : 96 ≤ n) (h2 : n ≤ 1441) : sizeOk n = true := by
  simp [sizeOk]; omega

/-- A header with usable indices is counted. -/
theorem acceptHeader_usable {b : BitVec 4} {r : BitVec 2} (p : BitVec 1) (s : State) (hb0 : b ≠ 0#4) (hb15 : b ≠ 15#4)
    (hr : r ≠ 3#2) : acceptHeader (headerFrameSize b r p) s = .next (s.countFrame (headerFrameSize b r p)) := by
  obtain ⟨h1, h2⟩ := headerFrameSize_bounds b r p hb0 hb15 hr
  rw [acceptHeader, if_pos (sizeOk_of_bounds h1 h2)]

/-! ### The instruction of a window -/

theorem exec_frameRow44100 (b : BitVec 4) (u p : BitVec 1) (x : BitVec 9) (s : State) (hb0 : b ≠ 0#4) (hb15 : b ≠ 15#4) :
    exec (frameRow44100 b u p x) s = acceptHeader (headerFrameSize b 0#2 p) s := by
  rcases bitVec4_cases b with rfl | rfl | rfl | rfl | rfl | rfl | rfl | rfl | rfl | rfl | rfl | rfl | rfl | rfl | rfl | rfl <;>
    first | exact absurd rfl hb0 | exact absurd rfl hb15 | rfl

theorem exec_frameRow48000 (b : BitVec 4) (u p : BitVec 1) (x : BitVec 9) (s : State) (hb0 : b ≠ 0#4) (hb15 : b ≠ 15#4) :
    exec (frameRow48000 b u p x) s = acceptHeader (headerFrameSize b 1#2 p) s := by
  rcases bitVec4_cases b with rfl | rfl | rfl | rfl | rfl | rfl | rfl | rfl | rfl | rfl | rfl | rfl | rfl | rfl | rfl | rfl <;>
    first | exact absurd rfl hb0 | exact absurd rfl hb15 | rfl

theorem exec_frameRow32000 (b : BitVec 4) (u p : BitVec 1) (x : BitVec 9) (s : State) (hb0 : b ≠ 0#4) (hb15 : b ≠ 15#4) :
    exec (frameRow32000 b u p x) s = acceptHeader (headerFrameSize b 2#2 p) s := by
  rcases bitVec4_cases b with rfl | rfl | rfl | rfl | rfl | rfl | rfl | rfl | rfl | rfl | rfl | rfl | rfl | rfl | rfl | rfl <;>
    first | exact absurd rfl hb0 | exact absurd rfl hb15 | rfl

/-- The class of a header is a FRAME row: sync, version 3, layer 1, usable indices (30_encoding.md R51, order 6). -/
abbrev FrameFields (f : FormatH) : Prop :=
  f.syncWord = 0x7FF#11 ∧ f.mpegVersion = 3#2 ∧ f.layer = 1#2 ∧ f.bitrateIndex ≠ 0#4 ∧ f.bitrateIndex ≠ 15#4 ∧ f.sampleRateIndex ≠ 3#2

theorem exec_classifyH_frame {f : FormatH} (h : FrameFields f) (s : State) : exec (classifyH f) s =
    .next (s.countFrame (headerFrameSize f.bitrateIndex f.sampleRateIndex f.padding)) := by
  obtain ⟨h1, h2, h3, h4, h5, h6⟩ := h
  have hr : ∀ r : BitVec 2, r ≠ 3#2 → r ≠ 0#2 → r ≠ 1#2 → r = 2#2 := by decide
  rw [← acceptHeader_usable f.padding s h4 h5 h6]
  simp only [classifyH, h1, h2, h3, h4, h5, h6, ne_eq, not_true_eq_false, if_false]
  rw [if_neg (by decide), if_neg (by decide), if_neg (by decide), if_neg (by decide), if_neg (by decide), if_neg (by decide)]
  split
  · rename_i h0; rw [h0]; exact exec_frameRow44100 _ _ _ _ _ h4 h5
  · split
    · rename_i h0; rw [h0]; exact exec_frameRow48000 _ _ _ _ _ h4 h5
    · rename_i h0 h1; rw [hr _ h6 h0 h1]; exact exec_frameRow32000 _ _ _ _ _ h4 h5

theorem exec_classifyH_other {f : FormatH} (h : ¬ FrameFields f) (s : State) : exec (classifyH f) s = .next (s.advance 1) := by
  have hv : ∀ v : BitVec 2, v ≠ 0#2 → v ≠ 1#2 → v ≠ 2#2 → v = 3#2 := by decide
  have hl : ∀ v : BitVec 2, v ≠ 0#2 → v ≠ 2#2 → v ≠ 3#2 → v = 1#2 := by decide
  by_cases c0 : f.syncWord ≠ 0x7FF#11
  · rw [classifyH, if_pos c0]; rfl
  by_cases c1 : f.mpegVersion = 0#2
  · rw [classifyH, if_neg c0, if_pos c1]; rfl
  by_cases c2 : f.mpegVersion = 1#2
  · rw [classifyH, if_neg c0, if_neg c1, if_pos c2]; rfl
  by_cases c3 : f.mpegVersion = 2#2
  · rw [classifyH, if_neg c0, if_neg c1, if_neg c2, if_pos c3]; rfl
  by_cases c4 : f.layer = 0#2
  · rw [classifyH, if_neg c0, if_neg c1, if_neg c2, if_neg c3, if_pos c4]; rfl
  by_cases c5 : f.layer = 2#2
  · rw [classifyH, if_neg c0, if_neg c1, if_neg c2, if_neg c3, if_neg c4, if_pos c5]; rfl
  by_cases c6 : f.layer = 3#2
  · rw [classifyH, if_neg c0, if_neg c1, if_neg c2, if_neg c3, if_neg c4, if_neg c5, if_pos c6]; rfl
  by_cases c7 : f.bitrateIndex = 0#4
  · rw [classifyH, if_neg c0, if_neg c1, if_neg c2, if_neg c3, if_neg c4, if_neg c5, if_neg c6, if_pos c7]; rfl
  by_cases c8 : f.bitrateIndex = 15#4
  · rw [classifyH, if_neg c0, if_neg c1, if_neg c2, if_neg c3, if_neg c4, if_neg c5, if_neg c6, if_neg c7, if_pos c8]; rfl
  by_cases c9 : f.sampleRateIndex = 3#2
  · rw [classifyH, if_neg c0, if_neg c1, if_neg c2, if_neg c3, if_neg c4, if_neg c5, if_neg c6, if_neg c7, if_neg c8, if_pos c9]; rfl
  exact absurd ⟨not_not.mp c0, hv _ c1 c2 c3, hl _ c4 c5 c6, c7, c8, c9⟩ h

/-! ### What an instruction can do -/

theorem ssafe_le (b0 b1 b2 b3 : Byte) : ssafe b0 b1 b2 b3 < 2 ^ 28 := by
  have h : ∀ b : Byte, b.toNat &&& 0x7F < 2 ^ 7 := fun b => Nat.and_lt_two_pow _ (by decide)
  unfold ssafe
  refine Nat.or_lt_two_pow (Nat.or_lt_two_pow (Nat.or_lt_two_pow ?_ ?_) ?_) ?_ <;>
    · try rw [Nat.shiftLeft_eq]
      have := h b0; have := h b1; have := h b2; have := h b3; omega

theorem acceptHeader_cases (b : BitVec 4) (r : BitVec 2) (p : BitVec 1) (s : State) (hb0 : b ≠ 0#4) (hb15 : b ≠ 15#4)
    (hr : r ≠ 3#2) : ∃ n, 96 ≤ n ∧ n ≤ 1441 ∧ acceptHeader (headerFrameSize b r p) s = .next (s.countFrame n) :=
  ⟨_, (headerFrameSize_bounds b r p hb0 hb15 hr).1, (headerFrameSize_bounds b r p hb0 hb15 hr).2, acceptHeader_usable p s hb0 hb15 hr⟩

/-- Every row does one of four things: it launches, ends, counts a frame, or steps over a byte. -/
theorem exec_cases (i : Instr) (s : State) :
    (i.format = .tagHeader ∧ ∃ n, n ≤ 2 ^ 28 + 9 ∧ exec i s = launch n s) ∨
    (i = .endScan ∧ exec i s = .next s.finish) ∨
    (i.format = .window ∧ countsFrame i = true ∧ ∃ n, 96 ≤ n ∧ n ≤ 1441 ∧ exec i s = .next (s.countFrame n)) ∨
    (i.format = .window ∧ countsFrame i = false ∧ exec i s = .next (s.advance 1)) := by
  cases i
  case launchTag v g a b c d =>
    exact .inl ⟨rfl, ssafe a b c d + 10, by have := ssafe_le a b c d; omega, rfl⟩
  case launchNotag h => exact .inl ⟨rfl, 0, by omega, rfl⟩
  case endScan => exact .inr (.inl ⟨rfl, rfl⟩)
  case rejectVer0 => exact .inr (.inr (.inr ⟨rfl, rfl, rfl⟩))
  case rejectVer1 => exact .inr (.inr (.inr ⟨rfl, rfl, rfl⟩))
  case rejectVer2 => exact .inr (.inr (.inr ⟨rfl, rfl, rfl⟩))
  case rejectLay0 => exact .inr (.inr (.inr ⟨rfl, rfl, rfl⟩))
  case rejectLay2 => exact .inr (.inr (.inr ⟨rfl, rfl, rfl⟩))
  case rejectLay3 => exact .inr (.inr (.inr ⟨rfl, rfl, rfl⟩))
  case rejectBr0 => exact .inr (.inr (.inr ⟨rfl, rfl, rfl⟩))
  case rejectBr15 => exact .inr (.inr (.inr ⟨rfl, rfl, rfl⟩))
  case rejectSr3 => exact .inr (.inr (.inr ⟨rfl, rfl, rfl⟩))
  case nosync => exact .inr (.inr (.inr ⟨rfl, rfl, rfl⟩))
  case frame32_44100 _ p _ => exact .inr (.inr (.inl ⟨rfl, rfl, acceptHeader_cases 1#4 0#2 p s (by decide) (by decide) (by decide)⟩))
  case frame32_48000 _ p _ => exact .inr (.inr (.inl ⟨rfl, rfl, acceptHeader_cases 1#4 1#2 p s (by decide) (by decide) (by decide)⟩))
  case frame32_32000 _ p _ => exact .inr (.inr (.inl ⟨rfl, rfl, acceptHeader_cases 1#4 2#2 p s (by decide) (by decide) (by decide)⟩))
  case frame40_44100 _ p _ => exact .inr (.inr (.inl ⟨rfl, rfl, acceptHeader_cases 2#4 0#2 p s (by decide) (by decide) (by decide)⟩))
  case frame40_48000 _ p _ => exact .inr (.inr (.inl ⟨rfl, rfl, acceptHeader_cases 2#4 1#2 p s (by decide) (by decide) (by decide)⟩))
  case frame40_32000 _ p _ => exact .inr (.inr (.inl ⟨rfl, rfl, acceptHeader_cases 2#4 2#2 p s (by decide) (by decide) (by decide)⟩))
  case frame48_44100 _ p _ => exact .inr (.inr (.inl ⟨rfl, rfl, acceptHeader_cases 3#4 0#2 p s (by decide) (by decide) (by decide)⟩))
  case frame48_48000 _ p _ => exact .inr (.inr (.inl ⟨rfl, rfl, acceptHeader_cases 3#4 1#2 p s (by decide) (by decide) (by decide)⟩))
  case frame48_32000 _ p _ => exact .inr (.inr (.inl ⟨rfl, rfl, acceptHeader_cases 3#4 2#2 p s (by decide) (by decide) (by decide)⟩))
  case frame56_44100 _ p _ => exact .inr (.inr (.inl ⟨rfl, rfl, acceptHeader_cases 4#4 0#2 p s (by decide) (by decide) (by decide)⟩))
  case frame56_48000 _ p _ => exact .inr (.inr (.inl ⟨rfl, rfl, acceptHeader_cases 4#4 1#2 p s (by decide) (by decide) (by decide)⟩))
  case frame56_32000 _ p _ => exact .inr (.inr (.inl ⟨rfl, rfl, acceptHeader_cases 4#4 2#2 p s (by decide) (by decide) (by decide)⟩))
  case frame64_44100 _ p _ => exact .inr (.inr (.inl ⟨rfl, rfl, acceptHeader_cases 5#4 0#2 p s (by decide) (by decide) (by decide)⟩))
  case frame64_48000 _ p _ => exact .inr (.inr (.inl ⟨rfl, rfl, acceptHeader_cases 5#4 1#2 p s (by decide) (by decide) (by decide)⟩))
  case frame64_32000 _ p _ => exact .inr (.inr (.inl ⟨rfl, rfl, acceptHeader_cases 5#4 2#2 p s (by decide) (by decide) (by decide)⟩))
  case frame80_44100 _ p _ => exact .inr (.inr (.inl ⟨rfl, rfl, acceptHeader_cases 6#4 0#2 p s (by decide) (by decide) (by decide)⟩))
  case frame80_48000 _ p _ => exact .inr (.inr (.inl ⟨rfl, rfl, acceptHeader_cases 6#4 1#2 p s (by decide) (by decide) (by decide)⟩))
  case frame80_32000 _ p _ => exact .inr (.inr (.inl ⟨rfl, rfl, acceptHeader_cases 6#4 2#2 p s (by decide) (by decide) (by decide)⟩))
  case frame96_44100 _ p _ => exact .inr (.inr (.inl ⟨rfl, rfl, acceptHeader_cases 7#4 0#2 p s (by decide) (by decide) (by decide)⟩))
  case frame96_48000 _ p _ => exact .inr (.inr (.inl ⟨rfl, rfl, acceptHeader_cases 7#4 1#2 p s (by decide) (by decide) (by decide)⟩))
  case frame96_32000 _ p _ => exact .inr (.inr (.inl ⟨rfl, rfl, acceptHeader_cases 7#4 2#2 p s (by decide) (by decide) (by decide)⟩))
  case frame112_44100 _ p _ => exact .inr (.inr (.inl ⟨rfl, rfl, acceptHeader_cases 8#4 0#2 p s (by decide) (by decide) (by decide)⟩))
  case frame112_48000 _ p _ => exact .inr (.inr (.inl ⟨rfl, rfl, acceptHeader_cases 8#4 1#2 p s (by decide) (by decide) (by decide)⟩))
  case frame112_32000 _ p _ => exact .inr (.inr (.inl ⟨rfl, rfl, acceptHeader_cases 8#4 2#2 p s (by decide) (by decide) (by decide)⟩))
  case frame128_44100 _ p _ => exact .inr (.inr (.inl ⟨rfl, rfl, acceptHeader_cases 9#4 0#2 p s (by decide) (by decide) (by decide)⟩))
  case frame128_48000 _ p _ => exact .inr (.inr (.inl ⟨rfl, rfl, acceptHeader_cases 9#4 1#2 p s (by decide) (by decide) (by decide)⟩))
  case frame128_32000 _ p _ => exact .inr (.inr (.inl ⟨rfl, rfl, acceptHeader_cases 9#4 2#2 p s (by decide) (by decide) (by decide)⟩))
  case frame160_44100 _ p _ => exact .inr (.inr (.inl ⟨rfl, rfl, acceptHeader_cases 10#4 0#2 p s (by decide) (by decide) (by decide)⟩))
  case frame160_48000 _ p _ => exact .inr (.inr (.inl ⟨rfl, rfl, acceptHeader_cases 10#4 1#2 p s (by decide) (by decide) (by decide)⟩))
  case frame160_32000 _ p _ => exact .inr (.inr (.inl ⟨rfl, rfl, acceptHeader_cases 10#4 2#2 p s (by decide) (by decide) (by decide)⟩))
  case frame192_44100 _ p _ => exact .inr (.inr (.inl ⟨rfl, rfl, acceptHeader_cases 11#4 0#2 p s (by decide) (by decide) (by decide)⟩))
  case frame192_48000 _ p _ => exact .inr (.inr (.inl ⟨rfl, rfl, acceptHeader_cases 11#4 1#2 p s (by decide) (by decide) (by decide)⟩))
  case frame192_32000 _ p _ => exact .inr (.inr (.inl ⟨rfl, rfl, acceptHeader_cases 11#4 2#2 p s (by decide) (by decide) (by decide)⟩))
  case frame224_44100 _ p _ => exact .inr (.inr (.inl ⟨rfl, rfl, acceptHeader_cases 12#4 0#2 p s (by decide) (by decide) (by decide)⟩))
  case frame224_48000 _ p _ => exact .inr (.inr (.inl ⟨rfl, rfl, acceptHeader_cases 12#4 1#2 p s (by decide) (by decide) (by decide)⟩))
  case frame224_32000 _ p _ => exact .inr (.inr (.inl ⟨rfl, rfl, acceptHeader_cases 12#4 2#2 p s (by decide) (by decide) (by decide)⟩))
  case frame256_44100 _ p _ => exact .inr (.inr (.inl ⟨rfl, rfl, acceptHeader_cases 13#4 0#2 p s (by decide) (by decide) (by decide)⟩))
  case frame256_48000 _ p _ => exact .inr (.inr (.inl ⟨rfl, rfl, acceptHeader_cases 13#4 1#2 p s (by decide) (by decide) (by decide)⟩))
  case frame256_32000 _ p _ => exact .inr (.inr (.inl ⟨rfl, rfl, acceptHeader_cases 13#4 2#2 p s (by decide) (by decide) (by decide)⟩))
  case frame320_44100 _ p _ => exact .inr (.inr (.inl ⟨rfl, rfl, acceptHeader_cases 14#4 0#2 p s (by decide) (by decide) (by decide)⟩))
  case frame320_48000 _ p _ => exact .inr (.inr (.inl ⟨rfl, rfl, acceptHeader_cases 14#4 1#2 p s (by decide) (by decide) (by decide)⟩))
  case frame320_32000 _ p _ => exact .inr (.inr (.inl ⟨rfl, rfl, acceptHeader_cases 14#4 2#2 p s (by decide) (by decide) (by decide)⟩))

end Sys2Proof.Machine
end

