-- ==== Sys2Proof/Laws/PerInstr.lean ====
section
/-! SUPPORT. Statements about every instruction, one lemma for each constructor of Instr. The family RoundTrip: a well-formed
instruction's bytes decode to it (30_encoding.md R46, R49, R51). -/

open Sys2Proof

/-- The bytes of a well-formed instruction decode to the instruction. -/
def Sys2Proof.Laws.RoundTrip.Statement (i : Instr) : Prop := i.wellFormed = true → decode i.format (encode i) = .ok i

namespace Sys2Proof.Laws.RoundTrip

/-- An instruction whose bytes join the given fields is decoded by their class. -/
theorem ofFields {i : Instr} {f : FormatH} (h : decode i.format (encode i) = decode .window (natToBytes 4 (joinH f).toNat))
    (hc : classifyH f = i) : decode i.format (encode i) = .ok i := by
  rw [h, decode_window_bytes, decodeWindow_joinH, hc]

end Sys2Proof.Laws.RoundTrip

open Sys2Proof.Laws.RoundTrip

theorem Sys2Proof.Laws.RoundTrip.launchTag (version : BitVec 16) (flags : BitVec 8) (size0 : Byte) (size1 : Byte) (size2 : Byte) (size3 : Byte) : Statement (.launchTag version flags size0 size1 size2 size3) := by
  intro _
  simp only [Instr.format, encode, decode_tag_bytes, decodeTag, splitT_joinT, if_true]

theorem Sys2Proof.Laws.RoundTrip.launchNotag (header : Option TagHeader) : Statement (.launchNotag header) := by
  intro h
  cases header with
  | none => rfl
  | some t =>
    have hm : (splitT t).marker ≠ 0x494433#24 := by simpa [Instr.wellFormed, splitT] using h
    simp only [Instr.format, encode, decode_tag_bytes, decodeTag, if_neg hm]

theorem Sys2Proof.Laws.RoundTrip.endScan : Statement (.endScan) := fun _ => rfl

theorem Sys2Proof.Laws.RoundTrip.rejectVer0 (layer : BitVec 2) (bit16 : BitVec 1) (bitrateIndex : BitVec 4) (sampleRateIndex : BitVec 2) (padding : BitVec 1) (low : BitVec 9) : Statement (.rejectVer0 layer bit16 bitrateIndex sampleRateIndex padding low) := fun _ => ofFields rfl rfl

theorem Sys2Proof.Laws.RoundTrip.rejectVer1 (layer : BitVec 2) (bit16 : BitVec 1) (bitrateIndex : BitVec 4) (sampleRateIndex : BitVec 2) (padding : BitVec 1) (low : BitVec 9) : Statement (.rejectVer1 layer bit16 bitrateIndex sampleRateIndex padding low) := fun _ => ofFields rfl rfl

theorem Sys2Proof.Laws.RoundTrip.rejectVer2 (layer : BitVec 2) (bit16 : BitVec 1) (bitrateIndex : BitVec 4) (sampleRateIndex : BitVec 2) (padding : BitVec 1) (low : BitVec 9) : Statement (.rejectVer2 layer bit16 bitrateIndex sampleRateIndex padding low) := fun _ => ofFields rfl rfl

theorem Sys2Proof.Laws.RoundTrip.rejectLay0 (bit16 : BitVec 1) (bitrateIndex : BitVec 4) (sampleRateIndex : BitVec 2) (padding : BitVec 1) (low : BitVec 9) : Statement (.rejectLay0 bit16 bitrateIndex sampleRateIndex padding low) := fun _ => ofFields rfl rfl

theorem Sys2Proof.Laws.RoundTrip.rejectLay2 (bit16 : BitVec 1) (bitrateIndex : BitVec 4) (sampleRateIndex : BitVec 2) (padding : BitVec 1) (low : BitVec 9) : Statement (.rejectLay2 bit16 bitrateIndex sampleRateIndex padding low) := fun _ => ofFields rfl rfl

theorem Sys2Proof.Laws.RoundTrip.rejectLay3 (bit16 : BitVec 1) (bitrateIndex : BitVec 4) (sampleRateIndex : BitVec 2) (padding : BitVec 1) (low : BitVec 9) : Statement (.rejectLay3 bit16 bitrateIndex sampleRateIndex padding low) := fun _ => ofFields rfl rfl

theorem Sys2Proof.Laws.RoundTrip.rejectBr0 (bit16 : BitVec 1) (sampleRateIndex : BitVec 2) (padding : BitVec 1) (low : BitVec 9) : Statement (.rejectBr0 bit16 sampleRateIndex padding low) := fun _ => ofFields rfl rfl

theorem Sys2Proof.Laws.RoundTrip.rejectBr15 (bit16 : BitVec 1) (sampleRateIndex : BitVec 2) (padding : BitVec 1) (low : BitVec 9) : Statement (.rejectBr15 bit16 sampleRateIndex padding low) := fun _ => ofFields rfl rfl

theorem Sys2Proof.Laws.RoundTrip.rejectSr3 (bit16 : BitVec 1) (bitrateIndex : BitVec 4) (padding : BitVec 1) (low : BitVec 9) : Statement (.rejectSr3 bit16 bitrateIndex padding low) := by
  intro h
  have hb : bitrateIndex ≠ 0#4 ∧ bitrateIndex ≠ 15#4 := by simpa [Instr.wellFormed] using h
  exact ofFields rfl (by simp [classifyH, hb.1, hb.2])

theorem Sys2Proof.Laws.RoundTrip.frame32_44100 (bit16 : BitVec 1) (padding : BitVec 1) (low : BitVec 9) : Statement (.frame32_44100 bit16 padding low) := fun _ => ofFields rfl rfl

theorem Sys2Proof.Laws.RoundTrip.frame32_48000 (bit16 : BitVec 1) (padding : BitVec 1) (low : BitVec 9) : Statement (.frame32_48000 bit16 padding low) := fun _ => ofFields rfl rfl

theorem Sys2Proof.Laws.RoundTrip.frame32_32000 (bit16 : BitVec 1) (padding : BitVec 1) (low : BitVec 9) : Statement (.frame32_32000 bit16 padding low) := fun _ => ofFields rfl rfl

theorem Sys2Proof.Laws.RoundTrip.frame40_44100 (bit16 : BitVec 1) (padding : BitVec 1) (low : BitVec 9) : Statement (.frame40_44100 bit16 padding low) := fun _ => ofFields rfl rfl

theorem Sys2Proof.Laws.RoundTrip.frame40_48000 (bit16 : BitVec 1) (padding : BitVec 1) (low : BitVec 9) : Statement (.frame40_48000 bit16 padding low) := fun _ => ofFields rfl rfl

theorem Sys2Proof.Laws.RoundTrip.frame40_32000 (bit16 : BitVec 1) (padding : BitVec 1) (low : BitVec 9) : Statement (.frame40_32000 bit16 padding low) := fun _ => ofFields rfl rfl

theorem Sys2Proof.Laws.RoundTrip.frame48_44100 (bit16 : BitVec 1) (padding : BitVec 1) (low : BitVec 9) : Statement (.frame48_44100 bit16 padding low) := fun _ => ofFields rfl rfl

theorem Sys2Proof.Laws.RoundTrip.frame48_48000 (bit16 : BitVec 1) (padding : BitVec 1) (low : BitVec 9) : Statement (.frame48_48000 bit16 padding low) := fun _ => ofFields rfl rfl

theorem Sys2Proof.Laws.RoundTrip.frame48_32000 (bit16 : BitVec 1) (padding : BitVec 1) (low : BitVec 9) : Statement (.frame48_32000 bit16 padding low) := fun _ => ofFields rfl rfl

theorem Sys2Proof.Laws.RoundTrip.frame56_44100 (bit16 : BitVec 1) (padding : BitVec 1) (low : BitVec 9) : Statement (.frame56_44100 bit16 padding low) := fun _ => ofFields rfl rfl

theorem Sys2Proof.Laws.RoundTrip.frame56_48000 (bit16 : BitVec 1) (padding : BitVec 1) (low : BitVec 9) : Statement (.frame56_48000 bit16 padding low) := fun _ => ofFields rfl rfl

theorem Sys2Proof.Laws.RoundTrip.frame56_32000 (bit16 : BitVec 1) (padding : BitVec 1) (low : BitVec 9) : Statement (.frame56_32000 bit16 padding low) := fun _ => ofFields rfl rfl

theorem Sys2Proof.Laws.RoundTrip.frame64_44100 (bit16 : BitVec 1) (padding : BitVec 1) (low : BitVec 9) : Statement (.frame64_44100 bit16 padding low) := fun _ => ofFields rfl rfl

theorem Sys2Proof.Laws.RoundTrip.frame64_48000 (bit16 : BitVec 1) (padding : BitVec 1) (low : BitVec 9) : Statement (.frame64_48000 bit16 padding low) := fun _ => ofFields rfl rfl

theorem Sys2Proof.Laws.RoundTrip.frame64_32000 (bit16 : BitVec 1) (padding : BitVec 1) (low : BitVec 9) : Statement (.frame64_32000 bit16 padding low) := fun _ => ofFields rfl rfl

theorem Sys2Proof.Laws.RoundTrip.frame80_44100 (bit16 : BitVec 1) (padding : BitVec 1) (low : BitVec 9) : Statement (.frame80_44100 bit16 padding low) := fun _ => ofFields rfl rfl

theorem Sys2Proof.Laws.RoundTrip.frame80_48000 (bit16 : BitVec 1) (padding : BitVec 1) (low : BitVec 9) : Statement (.frame80_48000 bit16 padding low) := fun _ => ofFields rfl rfl

theorem Sys2Proof.Laws.RoundTrip.frame80_32000 (bit16 : BitVec 1) (padding : BitVec 1) (low : BitVec 9) : Statement (.frame80_32000 bit16 padding low) := fun _ => ofFields rfl rfl

theorem Sys2Proof.Laws.RoundTrip.frame96_44100 (bit16 : BitVec 1) (padding : BitVec 1) (low : BitVec 9) : Statement (.frame96_44100 bit16 padding low) := fun _ => ofFields rfl rfl

theorem Sys2Proof.Laws.RoundTrip.frame96_48000 (bit16 : BitVec 1) (padding : BitVec 1) (low : BitVec 9) : Statement (.frame96_48000 bit16 padding low) := fun _ => ofFields rfl rfl

theorem Sys2Proof.Laws.RoundTrip.frame96_32000 (bit16 : BitVec 1) (padding : BitVec 1) (low : BitVec 9) : Statement (.frame96_32000 bit16 padding low) := fun _ => ofFields rfl rfl

theorem Sys2Proof.Laws.RoundTrip.frame112_44100 (bit16 : BitVec 1) (padding : BitVec 1) (low : BitVec 9) : Statement (.frame112_44100 bit16 padding low) := fun _ => ofFields rfl rfl

theorem Sys2Proof.Laws.RoundTrip.frame112_48000 (bit16 : BitVec 1) (padding : BitVec 1) (low : BitVec 9) : Statement (.frame112_48000 bit16 padding low) := fun _ => ofFields rfl rfl

theorem Sys2Proof.Laws.RoundTrip.frame112_32000 (bit16 : BitVec 1) (padding : BitVec 1) (low : BitVec 9) : Statement (.frame112_32000 bit16 padding low) := fun _ => ofFields rfl rfl

theorem Sys2Proof.Laws.RoundTrip.frame128_44100 (bit16 : BitVec 1) (padding : BitVec 1) (low : BitVec 9) : Statement (.frame128_44100 bit16 padding low) := fun _ => ofFields rfl rfl

theorem Sys2Proof.Laws.RoundTrip.frame128_48000 (bit16 : BitVec 1) (padding : BitVec 1) (low : BitVec 9) : Statement (.frame128_48000 bit16 padding low) := fun _ => ofFields rfl rfl

theorem Sys2Proof.Laws.RoundTrip.frame128_32000 (bit16 : BitVec 1) (padding : BitVec 1) (low : BitVec 9) : Statement (.frame128_32000 bit16 padding low) := fun _ => ofFields rfl rfl

theorem Sys2Proof.Laws.RoundTrip.frame160_44100 (bit16 : BitVec 1) (padding : BitVec 1) (low : BitVec 9) : Statement (.frame160_44100 bit16 padding low) := fun _ => ofFields rfl rfl

theorem Sys2Proof.Laws.RoundTrip.frame160_48000 (bit16 : BitVec 1) (padding : BitVec 1) (low : BitVec 9) : Statement (.frame160_48000 bit16 padding low) := fun _ => ofFields rfl rfl

theorem Sys2Proof.Laws.RoundTrip.frame160_32000 (bit16 : BitVec 1) (padding : BitVec 1) (low : BitVec 9) : Statement (.frame160_32000 bit16 padding low) := fun _ => ofFields rfl rfl

theorem Sys2Proof.Laws.RoundTrip.frame192_44100 (bit16 : BitVec 1) (padding : BitVec 1) (low : BitVec 9) : Statement (.frame192_44100 bit16 padding low) := fun _ => ofFields rfl rfl

theorem Sys2Proof.Laws.RoundTrip.frame192_48000 (bit16 : BitVec 1) (padding : BitVec 1) (low : BitVec 9) : Statement (.frame192_48000 bit16 padding low) := fun _ => ofFields rfl rfl

theorem Sys2Proof.Laws.RoundTrip.frame192_32000 (bit16 : BitVec 1) (padding : BitVec 1) (low : BitVec 9) : Statement (.frame192_32000 bit16 padding low) := fun _ => ofFields rfl rfl

theorem Sys2Proof.Laws.RoundTrip.frame224_44100 (bit16 : BitVec 1) (padding : BitVec 1) (low : BitVec 9) : Statement (.frame224_44100 bit16 padding low) := fun _ => ofFields rfl rfl

theorem Sys2Proof.Laws.RoundTrip.frame224_48000 (bit16 : BitVec 1) (padding : BitVec 1) (low : BitVec 9) : Statement (.frame224_48000 bit16 padding low) := fun _ => ofFields rfl rfl

theorem Sys2Proof.Laws.RoundTrip.frame224_32000 (bit16 : BitVec 1) (padding : BitVec 1) (low : BitVec 9) : Statement (.frame224_32000 bit16 padding low) := fun _ => ofFields rfl rfl

theorem Sys2Proof.Laws.RoundTrip.frame256_44100 (bit16 : BitVec 1) (padding : BitVec 1) (low : BitVec 9) : Statement (.frame256_44100 bit16 padding low) := fun _ => ofFields rfl rfl

theorem Sys2Proof.Laws.RoundTrip.frame256_48000 (bit16 : BitVec 1) (padding : BitVec 1) (low : BitVec 9) : Statement (.frame256_48000 bit16 padding low) := fun _ => ofFields rfl rfl

theorem Sys2Proof.Laws.RoundTrip.frame256_32000 (bit16 : BitVec 1) (padding : BitVec 1) (low : BitVec 9) : Statement (.frame256_32000 bit16 padding low) := fun _ => ofFields rfl rfl

theorem Sys2Proof.Laws.RoundTrip.frame320_44100 (bit16 : BitVec 1) (padding : BitVec 1) (low : BitVec 9) : Statement (.frame320_44100 bit16 padding low) := fun _ => ofFields rfl rfl

theorem Sys2Proof.Laws.RoundTrip.frame320_48000 (bit16 : BitVec 1) (padding : BitVec 1) (low : BitVec 9) : Statement (.frame320_48000 bit16 padding low) := fun _ => ofFields rfl rfl

theorem Sys2Proof.Laws.RoundTrip.frame320_32000 (bit16 : BitVec 1) (padding : BitVec 1) (low : BitVec 9) : Statement (.frame320_32000 bit16 padding low) := fun _ => ofFields rfl rfl

theorem Sys2Proof.Laws.RoundTrip.nosync (fields : FormatH) : Statement (.nosync fields) := by
  intro h
  have hs : fields.syncWord ≠ 0x7FF#11 := by simpa [Instr.wellFormed] using h
  exact ofFields rfl (by rw [classifyH, if_pos hs])
end

