-- ==== Sys2Proof/Laws/Step.lean ====
section
/-! SUPPORT. What a step can do, said once for the block and once for the machine. -/

namespace Sys2Proof.Machine

theorem atEnd_iff {s : State} : atEnd s = true ↔ s.len < s.cur + 4 := by simp [atEnd]

theorem not_atEnd {s : State} (h : s.cur + 4 ≤ s.len) : ¬ atEnd s = true := by rw [atEnd_iff]; omega

/-! ### Which transition is fetched -/

theorem blockStep_rst {s : State} (h : s.rst = true) : blockStep s = .next s.resetRegs := by simp [blockStep, h]

theorem blockStep_idle {s : State} (hr : s.rst = false) (hd : s.st = .done) (hs : s.start = false) : blockStep s = .next s := by
  simp [blockStep, fetch, hr, hd, hs]

theorem blockStep_launch {s : State} (hr : s.rst = false) (hd : s.st = .done) (hs : s.start = true) :
    blockStep s = exec (decodeTag (readTagHeader s)) s := by
  simp [blockStep, fetch, hr, hd, hs]

theorem blockStep_end {s : State} (hr : s.rst = false) (hc : s.st = .scanning) (he : s.len < s.cur + 4) :
    blockStep s = .next s.finish := by
  simp [blockStep, fetch, hr, hc, atEnd_iff.mpr he]; rfl

theorem blockStep_window {s : State} {w : Window} (hr : s.rst = false) (hc : s.st = .scanning) (he : s.cur + 4 ≤ s.len)
    (hw : readWindow s = some w) : blockStep s = exec (decodeWindow w) s := by
  simp [blockStep, fetch, hr, hc, not_atEnd he, hw]

theorem blockStep_unanswered {s : State} (hr : s.rst = false) (hc : s.st = .scanning) (he : s.cur + 4 ≤ s.len)
    (hw : readWindow s = none) : blockStep s = .refused .readUnanswered := by
  simp [blockStep, fetch, hr, hc, not_atEnd he, hw]

theorem exec_decodeTag (s : State) (h : Option TagHeader) : ∃ n, n ≤ 2 ^ 28 + 9 ∧ exec (decodeTag h) s = launch n s := by
  cases h with
  | none => exact ⟨0, by omega, rfl⟩
  | some t =>
    by_cases hm : (splitT t).marker = 0x494433#24
    · rw [decodeTag, if_pos hm]
      exact ⟨ssafe (splitT t).size0 (splitT t).size1 (splitT t).size2 (splitT t).size3 + 10,
        by have := ssafe_le (splitT t).size0 (splitT t).size1 (splitT t).size2 (splitT t).size3; omega, rfl⟩
    · rw [decodeTag, if_neg hm]
      exact ⟨0, by omega, rfl⟩

/-- What a step of the block can do. -/
theorem blockStep_cases (s : State) :
    (s.rst = true ∧ blockStep s = .next s.resetRegs) ∨
    (s.rst = false ∧ s.st = .done ∧ s.start = false ∧ blockStep s = .next s) ∨
    (s.rst = false ∧ s.st = .done ∧ s.start = true ∧ ∃ n, n ≤ 2 ^ 28 + 9 ∧ blockStep s = launch n s) ∨
    (s.rst = false ∧ s.st = .scanning ∧ s.len < s.cur + 4 ∧ blockStep s = .next s.finish) ∨
    (s.rst = false ∧ s.st = .scanning ∧ s.cur + 4 ≤ s.len ∧ ∃ n, 96 ≤ n ∧ n ≤ 1441 ∧ blockStep s = .next (s.countFrame n)) ∨
    (s.rst = false ∧ s.st = .scanning ∧ s.cur + 4 ≤ s.len ∧ blockStep s = .next (s.advance 1)) ∨
    (s.rst = false ∧ s.st = .scanning ∧ s.cur + 4 ≤ s.len ∧ readWindow s = none ∧ blockStep s = .refused .readUnanswered) := by
  cases hr : s.rst with
  | true => exact .inl ⟨rfl, blockStep_rst hr⟩
  | false =>
    right
    cases hd : s.st with
    | done =>
      cases hs : s.start with
      | false => exact .inl ⟨rfl, rfl, rfl, blockStep_idle hr hd hs⟩
      | true =>
        obtain ⟨n, hn, e⟩ := exec_decodeTag s (readTagHeader s)
        exact .inr (.inl ⟨rfl, rfl, rfl, n, hn, (blockStep_launch hr hd hs).trans e⟩)
    | scanning =>
      right; right
      rcases Nat.lt_or_ge s.len (s.cur + 4) with he | he
      · exact .inl ⟨rfl, rfl, he, blockStep_end hr hd he⟩
      · cases hw : readWindow s with
        | none => exact .inr (.inr (.inr ⟨rfl, rfl, he, rfl, blockStep_unanswered hr hd he hw⟩))
        | some w =>
          right
          by_cases hf : FrameFields (splitH w)
          · obtain ⟨-, -, -, h4, h5, h6⟩ := id hf
            obtain ⟨b1, b2⟩ := headerFrameSize_bounds _ _ (splitH w).padding h4 h5 h6
            exact .inl ⟨rfl, rfl, he, _, b1, b2, (blockStep_window hr hd he hw).trans (exec_classifyH_frame hf s)⟩
          · exact .inr (.inl ⟨rfl, rfl, he, (blockStep_window hr hd he hw).trans (exec_classifyH_other hf s)⟩)

/-! ### The host's turn -/

theorem step_nil {s : State} (h : s.host = []) : step s = blockStep s := by simp [step, h]

theorem step_wait {s : State} {h : List HostAction} (e : s.host = .wait :: h) : step s = blockStep (s.setHost h) := by
  simp [step, e]

theorem step_act {s : State} {a : HostAction} {h : List HostAction} (e : s.host = a :: h) (ha : a ≠ .wait) :
    step s = hostAct a (s.setHost h) := by
  cases a <;> simp_all [step]

/-- What a step of the machine can be: a step of the block, or one action of the host. -/
theorem step_cases (s : State) :
    (∃ h, step s = blockStep (s.setHost h)) ∨ (∃ a h, s.host = a :: h ∧ a ≠ .wait ∧ step s = hostAct a (s.setHost h)) := by
  cases e : s.host with
  | nil => exact .inl ⟨[], by rw [step_nil e, ← e]; rfl⟩
  | cons a h =>
    by_cases ha : a = .wait
    · subst ha; exact .inl ⟨h, step_wait e⟩
    · exact .inr ⟨a, h, rfl, ha, step_act e ha⟩

/-- What a host action can do. -/
theorem hostAct_next {a : HostAction} {s t : State} (h : hostAct a s = .next t) :
    t = s ∨ (∃ r b l, t = s.drive r b l) ∨ (s.st = .done ∧ ∃ m, (s.buf.wf → m.wf) ∧ t = s.setBuf m) := by
  have hd : s.st ≠ .scanning → s.st = .done := by cases s.st <;> simp
  cases a with
  | wait => cases h; exact .inl rfl
  | drive r b l => cases h; exact .inr (.inl ⟨r, b, l, rfl⟩)
  | store o v =>
    simp only [hostAct] at h
    split at h
    · cases h
    · cases h; exact .inr (.inr ⟨hd ‹_›, _, Memory.wf_write _ _ _, rfl⟩)
  | place bs =>
    simp only [hostAct] at h
    split at h
    · cases h
    · cases h; exact .inr (.inr ⟨hd ‹_›, _, fun _ => Memory.wf_ofBytes bs 0, rfl⟩)

/-! ### Reads that are answered -/

theorem readWindow_isSome {s : State} (h : s.cur + 4 ≤ s.len) (hx : s.len ≤ s.buf.extent) : (readWindow s).isSome := by
  have := memRead_isSome (m := s.buf) (len := s.len) (a := s.cur) 4 h hx
  simp [readWindow, this]

theorem readWindow_bytes {s : State} {b0 b1 b2 b3 : Byte} (h0 : bufByte s.buf s.len s.cur = some b0)
    (h1 : bufByte s.buf s.len (s.cur + 1) = some b1) (h2 : bufByte s.buf s.len (s.cur + 2) = some b2)
    (h3 : bufByte s.buf s.len (s.cur + 3) = some b3) :
    readWindow s = some (BitVec.ofNat 32 (0x1000000 * b0.toNat + 0x10000 * b1.toNat + 0x100 * b2.toNat + b3.toNat)) := by
  simp only [readWindow, memRead_four _ _ _ h0 h1 h2 h3, Option.map_some]

end Sys2Proof.Machine
end

