-- ==== Sys2Proof/Laws/Reads.lean ====
section
/-! SUPPORT. What the two reads of BUF give, byte by byte, and what LAUNCH makes of the tag header. -/

namespace Sys2Proof

theorem beNat_concat (bs : List Byte) (b : Byte) : beNat (bs ++ [b]) = 256 * beNat bs + b.toNat := by
  induction bs with
  | nil => simp [beNat]
  | cons c bs ih =>
    simp only [List.cons_append, beNat, ih, List.length_append, List.length_cons, List.length_nil]
    ring

/-- The fields of ten bytes read as a tag header (30_encoding.md R49). -/
theorem splitT_bytes (b0 b1 b2 b3 b4 b5 b6 b7 b8 b9 : Byte) :
    splitT (BitVec.ofNat 80 (beNat [b0, b1, b2, b3, b4, b5, b6, b7, b8, b9])) =
      ⟨BitVec.ofNat 24 (beNat [b0, b1, b2]), BitVec.ofNat 16 (beNat [b3, b4]), b5, b6, b7, b8, b9⟩ := by
  have l3 := beNat_lt [b0, b1, b2]
  have l2 := beNat_lt [b3, b4]
  have l10 := beNat_lt [b0, b1, b2, b3, b4, b5, b6, b7, b8, b9]
  rw [← splitT_joinT ⟨_, _, _, _, _, _, _⟩]
  congr 1
  apply BitVec.eq_of_toNat_eq
  rw [joinT_toNat]
  simp only [beNat, List.length_cons, List.length_nil, Nat.reduceAdd, Nat.reducePow] at l3 l2 l10 ⊢
  simp only [BitVec.toNat_ofNat, Nat.reducePow]
  rw [Nat.mod_eq_of_lt l10, Nat.mod_eq_of_lt l3, Nat.mod_eq_of_lt l2]
  omega

end Sys2Proof

namespace Sys2Proof.Machine

/-- A read gives the number its bytes spell. -/
theorem memRead_bytes {m : Memory} {len a : Nat} (bs : List Byte) (h : ∀ k, k < bs.length → bufByte m len (a + k) = bs[k]?) :
    memRead m len a bs.length = some (beNat bs) := by
  induction bs using List.reverseRecOn with
  | nil => rfl
  | append_singleton bs b ih =>
    have hb := h bs.length (by simp)
    have hbs := ih fun k hk => by rw [h k (by simp; omega), List.getElem?_append_left hk]
    simp only [List.length_append, List.length_cons, List.length_nil, Nat.zero_add, memRead, hbs, hb, List.getElem?_concat_length,
      beNat_concat]

theorem bufByte_of_extent {m : Memory} {len i : Nat} (hx : len ≤ m.extent) (h : i < len) : bufByte m len i = some (bytesOf m i) := by
  rw [bufByte_of_lt h]; exact Memory.read_of_lt_extent (by omega)

/-- The window at a cursor inside a backed buffer. -/
theorem readWindow_of_extent {s : State} (hx : s.len ≤ s.buf.extent) (h : s.cur + 4 ≤ s.len) :
    readWindow s = some (windowAt (bytesOf s.buf) s.cur) :=
  readWindow_bytes (bufByte_of_extent hx (by omega)) (bufByte_of_extent hx (by omega)) (bufByte_of_extent hx (by omega))
    (bufByte_of_extent hx (by omega))

theorem syncHit_of_extent {s : State} (hx : s.len ≤ s.buf.extent) (h : s.cur + 4 ≤ s.len) :
    syncHit s = syncDet (bytesOf s.buf s.cur) (bytesOf s.buf (s.cur + 1)) := by
  simp only [syncHit, bufByte_of_extent hx (show s.cur < s.len by omega), bufByte_of_extent hx (show s.cur + 1 < s.len by omega)]

/-- The tag header of a backed buffer of at least ten bytes. -/
theorem readTagHeader_of_extent {s : State} (hx : s.lenIn ≤ s.buf.extent) (h : 10 ≤ s.lenIn) :
    ∃ t, readTagHeader s = some t ∧ splitT t =
      ⟨BitVec.ofNat 24 (beNat [bytesOf s.buf 0, bytesOf s.buf 1, bytesOf s.buf 2]),
        BitVec.ofNat 16 (beNat [bytesOf s.buf 3, bytesOf s.buf 4]), bytesOf s.buf 5, bytesOf s.buf 6, bytesOf s.buf 7,
        bytesOf s.buf 8, bytesOf s.buf 9⟩ := by
  have hr := memRead_bytes (m := s.buf) (len := s.lenIn) (a := 0) [bytesOf s.buf 0, bytesOf s.buf 1, bytesOf s.buf 2, bytesOf s.buf 3,
    bytesOf s.buf 4, bytesOf s.buf 5, bytesOf s.buf 6, bytesOf s.buf 7, bytesOf s.buf 8, bytesOf s.buf 9] (fun k hk => by
      simp only [List.length_cons, List.length_nil, Nat.zero_add, Nat.reduceAdd] at hk
      rw [Nat.zero_add, bufByte_of_extent hx (by omega)]
      rcases k with _ | _ | _ | _ | _ | _ | _ | _ | _ | _ | k <;> first | rfl | omega)
  exact ⟨_, by rw [readTagHeader, if_pos h]; exact congrArg (Option.map (BitVec.ofNat 80)) hr, splitT_bytes ..⟩

/-- The marker test on the 24 bits is the test on the three bytes (30_encoding.md R54). -/
theorem marker_iff (b0 b1 b2 : Byte) : BitVec.ofNat 24 (beNat [b0, b1, b2]) = 0x494433#24 ↔ b0 = 0x49#8 ∧ b1 = 0x44#8 ∧ b2 = 0x33#8 := by
  have h := beNat_lt [b0, b1, b2]
  have := b0.isLt; have := b1.isLt; have := b2.isLt
  simp only [beNat, List.length_cons, List.length_nil, Nat.reduceAdd, Nat.reducePow, ← BitVec.toNat_inj, BitVec.toNat_ofNat] at h ⊢
  rw [Nat.mod_eq_of_lt h]
  omega

/-- On a dutiful launch the fetched row sets the cursor of `initialCursor` (40_tag_skip.md R63). -/
theorem exec_decodeTag_of_duty {s : State} (h : LaunchDuty s) :
    exec (decodeTag (readTagHeader s)) s = launch (initialCursor (bytesOf s.buf) s.lenIn) s := by
  by_cases h10 : 10 ≤ s.lenIn
  · obtain ⟨t, ht, hs⟩ := readTagHeader_of_extent h.2 h10
    rw [ht, decodeTag]
    by_cases hm : bytesOf s.buf 0 = 0x49#8 ∧ bytesOf s.buf 1 = 0x44#8 ∧ bytesOf s.buf 2 = 0x33#8
    · rw [if_pos (by rw [hs]; exact (marker_iff ..).mpr hm), initialCursor, if_pos ⟨h10, hm⟩, hs]; rfl
    · rw [if_neg (by rw [hs]; exact fun e => hm ((marker_iff ..).mp e)), initialCursor, if_neg fun e => hm e.2]; rfl
  · rw [readTagHeader, if_neg h10, initialCursor, if_neg fun e => h10 e.1]; rfl

/-! ### The validator -/

/-- What the validator can answer, with the fields that lead there (43_header_validate_framesize.md R89). -/
theorem validate_cases (w : Window) (f : FormatH) (hf : f = splitH w) :
    (f.mpegVersion ≠ 3#2 ∧ validate w = .reject .version) ∨
    (f.mpegVersion = 3#2 ∧ f.layer ≠ 1#2 ∧ validate w = .reject .layer) ∨
    (f.mpegVersion = 3#2 ∧ f.layer = 1#2 ∧ (f.bitrateIndex = 0#4 ∨ f.bitrateIndex = 15#4) ∧ validate w = .reject .bitrate) ∨
    (f.mpegVersion = 3#2 ∧ f.layer = 1#2 ∧ f.bitrateIndex ≠ 0#4 ∧ f.bitrateIndex ≠ 15#4 ∧ f.sampleRateIndex = 3#2 ∧
      validate w = .reject .sampleRate) ∨
    (f.mpegVersion = 3#2 ∧ f.layer = 1#2 ∧ f.bitrateIndex ≠ 0#4 ∧ f.bitrateIndex ≠ 15#4 ∧ f.sampleRateIndex ≠ 3#2 ∧
      validate w = .accept (headerFrameSize f.bitrateIndex f.sampleRateIndex f.padding)) := by
  subst hf
  by_cases h1 : (splitH w).mpegVersion = 3#2
  swap
  · exact .inl ⟨h1, by rw [validate, if_pos h1]⟩
  by_cases h2 : (splitH w).layer = 1#2
  swap
  · exact .inr (.inl ⟨h1, h2, by rw [validate, if_neg (not_not.mpr h1), if_pos h2]⟩)
  by_cases h3 : bitrateKbps (splitH w).bitrateIndex = 0
  · exact .inr (.inr (.inl ⟨h1, h2, (bitrateKbps_eq_zero _).mp h3,
      by rw [validate, if_neg (not_not.mpr h1), if_neg (not_not.mpr h2), if_pos h3]⟩))
  obtain ⟨h0, h15⟩ := not_or.mp (mt (bitrateKbps_eq_zero _).mpr h3)
  by_cases h4 : sampleRateHz (splitH w).sampleRateIndex = 0
  · exact .inr (.inr (.inr (.inl ⟨h1, h2, h0, h15, (sampleRateHz_eq_zero _).mp h4,
      by rw [validate, if_neg (not_not.mpr h1), if_neg (not_not.mpr h2), if_neg h3, if_pos h4]⟩)))
  have hr := mt (sampleRateHz_eq_zero _).mpr h4
  obtain ⟨b1, b2⟩ := headerFrameSize_bounds _ _ (splitH w).padding h0 h15 hr
  exact .inr (.inr (.inr (.inr ⟨h1, h2, h0, h15, hr,
    by rw [validate, if_neg (not_not.mpr h1), if_neg (not_not.mpr h2), if_neg h3, if_neg h4, if_pos (sizeOk_of_bounds b1 b2)]⟩)))

/-- SYNCDET on the two high bytes of a window, as its sync word (30_encoding.md R48). -/
theorem syncDet_windowAt (byte : Nat → Byte) (c : Nat) :
    syncDet (byte c) (byte (c + 1)) = true ↔ (splitH (windowAt byte c)).syncWord = 0x7FF#11 := by
  have hm : ∀ b : Byte, b &&& 0xE0#8 = 0xE0#8 ↔ 0xE0 ≤ b.toNat := by decide
  have := (byte c).isLt; have := (byte (c + 1)).isLt; have := (byte (c + 2)).isLt; have := (byte (c + 3)).isLt
  have hs := (splitH_toNat (windowAt byte c)).1
  rw [windowAt, BitVec.toNat_ofNat, Nat.mod_eq_of_lt (by omega)] at hs
  rw [windowAt, ← BitVec.toNat_inj, hs]
  simp only [syncDet, Bool.and_eq_true, beq_iff_eq, hm, ← BitVec.toNat_inj, BitVec.toNat_ofNat, Nat.reducePow, Nat.reduceMod]
  omega

/-- An answered window is the window of its four bytes. -/
theorem bytes_of_readWindow {s : State} {w : Window} (hw : readWindow s = some w) : ∃ b0 b1 b2 b3 : Byte,
    bufByte s.buf s.len s.cur = some b0 ∧ bufByte s.buf s.len (s.cur + 1) = some b1 ∧
      w = BitVec.ofNat 32 (0x1000000 * b0.toNat + 0x10000 * b1.toNat + 0x100 * b2.toNat + b3.toNat) := by
  obtain ⟨v, hv, -⟩ := Option.map_eq_some_iff.mp hw
  have hb := bufByte_of_memRead 4 hv
  obtain ⟨b0, h0⟩ := Option.isSome_iff_exists.mp (hb 0 (by omega))
  obtain ⟨b1, h1⟩ := Option.isSome_iff_exists.mp (hb 1 (by omega))
  obtain ⟨b2, h2⟩ := Option.isSome_iff_exists.mp (hb 2 (by omega))
  obtain ⟨b3, h3⟩ := Option.isSome_iff_exists.mp (hb 3 (by omega))
  exact ⟨b0, b1, b2, b3, h0, h1, Option.some.inj (hw.symm.trans (readWindow_bytes (s := s) h0 h1 h2 h3))⟩

/-- `sync_hit` is the sync word of the answered window (30_encoding.md R48). -/
theorem syncHit_iff {s : State} {w : Window} (hw : readWindow s = some w) : syncHit s = true ↔ (splitH w).syncWord = 0x7FF#11 := by
  obtain ⟨b0, b1, b2, b3, h0, h1, rfl⟩ := bytes_of_readWindow hw
  simp only [syncHit, h0, h1]
  exact syncDet_windowAt (fun n => if n = 0 then b0 else if n = 1 then b1 else if n = 2 then b2 else b3) 0

/-- The effect of a window's row, by its fields. -/
theorem exec_decodeWindow (w : Window) (s : State) : exec (decodeWindow w) s =
    if FrameFields (splitH w) then
      .next (s.countFrame (headerFrameSize (splitH w).bitrateIndex (splitH w).sampleRateIndex (splitH w).padding))
    else .next (s.advance 1) := by
  split
  · exact exec_classifyH_frame ‹_› s
  · exact exec_classifyH_other ‹_› s

end Sys2Proof.Machine
end

