-- ==== Sys2Proof/Laws/Run.lean ====
section
/-! SUPPORT. Runs of several steps, one step at a time. -/

namespace Sys2Proof.Machine

@[simp] theorem run_zero (s : State) : Sys2Proof.core.run 0 s = .next s := rfl

/-- A run goes on from the next state. -/
theorem run_next {k : Nat} {s t : State} (h : step s = .next t) : Sys2Proof.core.run (k + 1) s = Sys2Proof.core.run k t := by
  have h' : Sys2Proof.core.step s = .next t := h
  simp only [Host.Core.run, h']

/-- A run of `j + k` steps is the run of `k` steps from where `j` steps lead. -/
theorem run_add {j : Nat} : ∀ {k : Nat} {s t : State}, Sys2Proof.core.run j s = .next t →
    Sys2Proof.core.run (j + k) s = Sys2Proof.core.run k t := by
  induction j with
  | zero => intro k s t h; cases h; rw [Nat.zero_add]
  | succ j ih =>
    intro k s t h
    cases e : step s with
    | next u =>
      rw [run_next e] at h
      rw [Nat.succ_add_eq_add_succ, Nat.add_succ, run_next e, ih h]
    | fault f => cases f
    | refused r =>
      have e' : Sys2Proof.core.step s = .refused r := e
      simp only [Host.Core.run, e'] at h
      cases h

/-- Without planned actions a step leaves the inputs as they are. -/
theorem step_inputs {s t : State} (h : s.host = []) (e : step s = .next t) : t.host = [] ∧ t.rst = s.rst ∧ t.start = s.start := by
  rw [step_nil h] at e
  rcases blockStep_cases s with ⟨_, q⟩ | ⟨_, _, _, q⟩ | ⟨_, _, _, _, _, q⟩ | ⟨_, _, _, q⟩ | ⟨_, _, _, _, _, _, q⟩ | ⟨_, _, _, q⟩ |
    ⟨_, _, _, _, q⟩ <;> rw [q] at e
  · cases e; exact ⟨h, rfl, rfl⟩
  · cases e; exact ⟨h, rfl, rfl⟩
  · obtain ⟨_, rfl⟩ := launch_eq_next.mp e; exact ⟨h, rfl, rfl⟩
  · cases e; exact ⟨h, rfl, rfl⟩
  · cases e; exact ⟨h, rfl, rfl⟩
  · cases e; exact ⟨h, rfl, rfl⟩
  · cases e

/-- A state that steps to itself stays. -/
theorem run_still {s : State} (h : step s = .next s) : ∀ k, Sys2Proof.core.run k s = .next s
  | 0 => rfl
  | k + 1 => (run_next h).trans (run_still h k)

end Sys2Proof.Machine
end

