-- ==== Sys2Proof/Tests/Slice0.lean ====
section
/-! SUPPORT. The model's own tests. Expected results come from the encodings and tables of spec/ (30_encoding.md R46, R49, R51;
42_header_decode.md R83; 43_header_validate_framesize.md R91; 40_tag_skip.md R67; 41_sync_detect.md R74) and from the vectors of
95_test_vectors.md, written out by hand. The theorems test_witness_… show, for the obligation each one is named after, states and
operands that meet all its hypotheses together. -/

namespace Sys2Proof.Tests

open Sys2Proof Sys2Proof.Machine

/-! ### Helpers -/

/-- Bytes written as numbers. -/
def bytes (l : List Nat) : List Byte := l.map (BitVec.ofNat 8)

/-- A scan of a whole buffer that has come to a cursor. -/
def scanAt (l : List Nat) (cur : Nat) : State :=
  { State.reset with buf := Memory.ofBytes 0 (bytes l), len := l.length, cur := cur, st := .scanning }

/-- A buffer the host asks to scan. -/
def ready (l : List Nat) : State :=
  { State.reset with buf := Memory.ofBytes 0 (bytes l), start := true, lenIn := l.length }

/-- The registers LEN, CUR, CNT and ST of a next state. -/
def regs (r : Result) : Option (Nat × Nat × Nat × LoopState) :=
  match r with
  | .next s => some (s.len, s.cur, s.cnt, s.st)
  | .fault _ => none
  | .refused _ => none

/-- The registers after one step on a buffer that holds one 4-byte window, from cursor 0. -/
def windowStep (w : Nat) : Option (Nat × Nat × Nat × LoopState) :=
  regs (step { State.reset with buf := Memory.ofBytes 0 (natToBytes 4 w), len := 4, st := .scanning })

/-- The reason of a refusal. -/
def refusal (r : Result) : Option Refusal :=
  match r with
  | .next _ => none
  | .fault _ => none
  | .refused x => some x

/-! ### Ill-formed instructions are refused -/

theorem test_wf_nosync_with_sync_word : (Instr.nosync ⟨0x7FF#11, 3#2, 1#2, 1#1, 9#4, 0#2, 0#1, 0#9⟩).wellFormed = false := by decide

theorem test_wf_rejectSr3_bitrate_0 : (Instr.rejectSr3 1#1 0#4 0#1 0#9).wellFormed = false := by decide

theorem test_wf_rejectSr3_bitrate_15 : (Instr.rejectSr3 1#1 15#4 0#1 0#9).wellFormed = false := by decide

theorem test_wf_launchNotag_with_marker : (Instr.launchNotag (some 0x49443303000000000005#80)).wellFormed = false := by decide

/-! ### Words written out from the encodings decode to their rows (bits that no rule interprets are set) -/

theorem test_decode_launchTag : decode .tagHeader (bytes [0x49, 0x44, 0x33, 0x12, 0x34, 0x56, 0xFF, 0x0F, 0x42, 0x40]) =
    .ok (.launchTag 0x1234#16 0x56#8 0xFF#8 0x0F#8 0x42#8 0x40#8) := rfl

theorem test_decode_launchNotag : decode .tagHeader (bytes [0x49, 0x44, 0x32, 3, 0, 0, 0, 0, 0, 5]) =
    .ok (.launchNotag (some 0x49443203000000000005#80)) := rfl

theorem test_decode_launchNotag_short : decode .tagHeader [] = .ok (.launchNotag none) := rfl

theorem test_decode_endScan : decode .noBytes [] = .ok .endScan := rfl

theorem test_decode_wrong_lengths : decode .window (bytes [0xFF, 0xFB, 0x90]) = .error .windowIsFourBytes ∧
    decode .tagHeader (bytes [0x49, 0x44, 0x33, 3, 0, 0, 0, 0, 0]) = .error .tagHeaderIsTenBytes ∧
    decode .noBytes (bytes [0]) = .error .endHasNoBytes := ⟨rfl, rfl, rfl⟩

/- 0b11111111_11100011_10011011_01010101 and its like: sync 11 ones, version, layer, bit 16, bitrate, sample rate, padding, low. -/
theorem test_decode_rejects :
    [0xFFE39B55, 0xFFED9B55, 0xFFF39B55, 0xFFF99B55, 0xFFFD9B55, 0xFFFF9B55, 0xFFFB0D55, 0xFFFBFF55, 0xFFFB9D55].map
        (fun w => decodeWindow (BitVec.ofNat 32 w)) =
      [.rejectVer0 1#2 1#1 9#4 2#2 1#1 0x155#9, .rejectVer1 2#2 1#1 9#4 2#2 1#1 0x155#9, .rejectVer2 1#2 1#1 9#4 2#2 1#1 0x155#9,
       .rejectLay0 1#1 9#4 2#2 1#1 0x155#9, .rejectLay2 1#1 9#4 2#2 1#1 0x155#9, .rejectLay3 1#1 9#4 2#2 1#1 0x155#9,
       .rejectBr0 1#1 3#2 0#1 0x155#9, .rejectBr15 1#1 3#2 1#1 0x155#9, .rejectSr3 1#1 9#4 0#1 0x155#9] := rfl

theorem test_decode_nosync :
    [0xFFDB9000, 0x00E01234, 0xFEFB9000].map (fun w => decodeWindow (BitVec.ofNat 32 w)) =
      [.nosync ⟨0x7FE#11, 3#2, 1#2, 1#1, 9#4, 0#2, 0#1, 0#9⟩, .nosync ⟨0x007#11, 0#2, 0#2, 0#1, 1#4, 0#2, 1#1, 0x034#9⟩,
       .nosync ⟨0x7F7#11, 3#2, 1#2, 1#1, 9#4, 0#2, 0#1, 0#9⟩] := rfl

theorem test_decode_frames_44100 :
    [0xFFFB1355, 0xFFFB2355, 0xFFFB3355, 0xFFFB4355, 0xFFFB5355, 0xFFFB6355, 0xFFFB7355, 0xFFFB8355, 0xFFFB9355, 0xFFFBA355,
     0xFFFBB355, 0xFFFBC355, 0xFFFBD355, 0xFFFBE355].map
        (fun w => decodeWindow (BitVec.ofNat 32 w)) =
      [.frame32_44100 1#1 1#1 0x155#9, .frame40_44100 1#1 1#1 0x155#9, .frame48_44100 1#1 1#1 0x155#9,
       .frame56_44100 1#1 1#1 0x155#9, .frame64_44100 1#1 1#1 0x155#9, .frame80_44100 1#1 1#1 0x155#9,
       .frame96_44100 1#1 1#1 0x155#9, .frame112_44100 1#1 1#1 0x155#9, .frame128_44100 1#1 1#1 0x155#9,
       .frame160_44100 1#1 1#1 0x155#9, .frame192_44100 1#1 1#1 0x155#9, .frame224_44100 1#1 1#1 0x155#9,
       .frame256_44100 1#1 1#1 0x155#9, .frame320_44100 1#1 1#1 0x155#9] := rfl

theorem test_decode_frames_48000 :
    [0xFFFB1755, 0xFFFB2755, 0xFFFB3755, 0xFFFB4755, 0xFFFB5755, 0xFFFB6755, 0xFFFB7755, 0xFFFB8755, 0xFFFB9755, 0xFFFBA755,
     0xFFFBB755, 0xFFFBC755, 0xFFFBD755, 0xFFFBE755].map
        (fun w => decodeWindow (BitVec.ofNat 32 w)) =
      [.frame32_48000 1#1 1#1 0x155#9, .frame40_48000 1#1 1#1 0x155#9, .frame48_48000 1#1 1#1 0x155#9,
       .frame56_48000 1#1 1#1 0x155#9, .frame64_48000 1#1 1#1 0x155#9, .frame80_48000 1#1 1#1 0x155#9,
       .frame96_48000 1#1 1#1 0x155#9, .frame112_48000 1#1 1#1 0x155#9, .frame128_48000 1#1 1#1 0x155#9,
       .frame160_48000 1#1 1#1 0x155#9, .frame192_48000 1#1 1#1 0x155#9, .frame224_48000 1#1 1#1 0x155#9,
       .frame256_48000 1#1 1#1 0x155#9, .frame320_48000 1#1 1#1 0x155#9] := rfl

theorem test_decode_frames_32000 :
    [0xFFFB1B55, 0xFFFB2B55, 0xFFFB3B55, 0xFFFB4B55, 0xFFFB5B55, 0xFFFB6B55, 0xFFFB7B55, 0xFFFB8B55, 0xFFFB9B55, 0xFFFBAB55,
     0xFFFBBB55, 0xFFFBCB55, 0xFFFBDB55, 0xFFFBEB55].map
        (fun w => decodeWindow (BitVec.ofNat 32 w)) =
      [.frame32_32000 1#1 1#1 0x155#9, .frame40_32000 1#1 1#1 0x155#9, .frame48_32000 1#1 1#1 0x155#9,
       .frame56_32000 1#1 1#1 0x155#9, .frame64_32000 1#1 1#1 0x155#9, .frame80_32000 1#1 1#1 0x155#9,
       .frame96_32000 1#1 1#1 0x155#9, .frame112_32000 1#1 1#1 0x155#9, .frame128_32000 1#1 1#1 0x155#9,
       .frame160_32000 1#1 1#1 0x155#9, .frame192_32000 1#1 1#1 0x155#9, .frame224_32000 1#1 1#1 0x155#9,
       .frame256_32000 1#1 1#1 0x155#9, .frame320_32000 1#1 1#1 0x155#9] := rfl

/-! ### The host's words -/

theorem test_table_words : decodeTableWord 80 0x49443300000000000000 = some (.launchTag 0#16 0#8 0#8 0#8 0#8 0#8) ∧
    decodeTableWord 80 0 = some (.launchNotag (some 0#80)) ∧ decodeTableWord 0 0 = some .endScan ∧
    decodeTableWord 32 0 = some (.nosync ⟨0#11, 0#2, 0#2, 0#1, 0#4, 0#2, 0#1, 0#9⟩) ∧
    decodeTableWord 32 0xFFFA1C00 = some (.rejectSr3 0#1 1#4 0#1 0#9) ∧ decodeTableWord 88 0 = none ∧
    decodeTableWord 8 0 = some (.launchNotag (some 0#80)) := ⟨rfl, rfl, rfl, rfl, rfl, rfl, rfl⟩

theorem test_placed_words_run : regs (step (State.reset.withFetchWord 32 0xFFFA9000)) = some (4, 417, 1, .scanning) ∧
    regs (step (State.reset.withFetchWord 80 0x49443300000000000005)) = some (10, 15, 0, .scanning) ∧
    regs (step (State.reset.withFetchWord 80 0)) = some (10, 0, 0, .scanning) ∧
    regs (step (State.reset.withFetchWord 8 0)) = some (10, 0, 0, .scanning) ∧
    regs (step (State.reset.withFetchWord 0 0)) = some (0, 0, 0, .done) := ⟨rfl, rfl, rfl, rfl, rfl⟩

/-! ### One step of each instruction -/

/-- 95_test_vectors.md P2, step 0, and 40_tag_skip.md R67, row 5. -/
theorem test_step_launchTag :
    regs (step (ready [0x49, 0x44, 0x33, 3, 0, 0, 0, 0, 0, 5, 0xAA, 0xAA, 0xAA, 0xAA, 0xAA])) = some (15, 15, 0, .scanning) ∧
    regs (step (ready [0x49, 0x44, 0x33, 0xFF, 0xFF, 0xFF, 0, 0, 1, 0])) = some (10, 138, 0, .scanning) := by decide

/-- 40_tag_skip.md R67, rows 2 and 8. -/
theorem test_step_launchNotag : regs (step (ready [0x49, 0x44, 0x33, 3, 0, 0, 0, 0, 0])) = some (9, 0, 0, .scanning) ∧
    regs (step (ready [0x49, 0x44, 0x32, 3, 0, 0, 0, 0, 0, 5])) = some (10, 0, 0, .scanning) := by decide

/-- 95_test_vectors.md L4 and the last window of L5: `CUR + 4 > LEN` and not `>=`. -/
theorem test_step_end : regs (step (scanAt [0xFF, 0xFB, 0x90] 0)) = some (3, 0, 0, .done) ∧
    regs (step (scanAt [0xFF, 0xFB, 0x90, 0] 0)) = some (4, 417, 1, .scanning) := by decide

/-- 95_test_vectors.md P3, step 1; P4, step 3. -/
theorem test_step_nosync : regs (step (scanAt [0x00, 0xFF, 0xFF, 0xFB, 0x90, 0x00, 0x12, 0x34, 0x56, 0x78] 0)) = some (10, 1, 0, .scanning) ∧
    regs (step (scanAt [0x12, 0xFF, 0x34, 0xFF, 0xFB, 0x92, 0x00] 1)) = some (7, 2, 0, .scanning) := by decide

/-- 95_test_vectors.md 2.5: the windows of every reject row. -/
theorem test_step_rejects :
    [0xFFE09000, 0xFFEE9000, 0xFFF69000, 0xFFF89000, 0xFFFC9000, 0xFFFE9000, 0xFFFB0000, 0xFFFBFC00, 0xFFFB9C00].map windowStep =
      List.replicate 9 (some (4, 1, 0, .scanning)) := by decide

/-- The reasons of 95_test_vectors.md 2.5; both indices reserved is BR. -/
theorem test_validate_reasons :
    [0xFFF69000#32, 0xFFFE9000#32, 0xFFFB0000#32, 0xFFFBFC00#32, 0xFFFB9C00#32, 0xFFFB91FF#32].map validate =
      [.reject .version, .reject .layer, .reject .bitrate, .reject .bitrate, .reject .sampleRate, .accept 417] := by decide

/-- 43_header_validate_framesize.md R91, 44100 Hz, with padding 1. -/
theorem test_step_frames_44100 :
    [0xFFFA12FF, 0xFFFA22FF, 0xFFFA32FF, 0xFFFA42FF, 0xFFFA52FF, 0xFFFA62FF, 0xFFFA72FF, 0xFFFA82FF, 0xFFFA92FF, 0xFFFAA2FF,
     0xFFFAB2FF, 0xFFFAC2FF, 0xFFFAD2FF, 0xFFFAE2FF].map
        windowStep =
      [105, 131, 157, 183, 209, 262, 314, 366, 418, 523, 627, 732, 836, 1045].map
        (fun n => some (4, n, 1, .scanning)) := by decide

/-- 43_header_validate_framesize.md R91, 48000 Hz, with padding 1. -/
theorem test_step_frames_48000 :
    [0xFFFA16FF, 0xFFFA26FF, 0xFFFA36FF, 0xFFFA46FF, 0xFFFA56FF, 0xFFFA66FF, 0xFFFA76FF, 0xFFFA86FF, 0xFFFA96FF, 0xFFFAA6FF,
     0xFFFAB6FF, 0xFFFAC6FF, 0xFFFAD6FF, 0xFFFAE6FF].map
        windowStep =
      [97, 121, 145, 169, 193, 241, 289, 337, 385, 481, 577, 673, 769, 961].map
        (fun n => some (4, n, 1, .scanning)) := by decide

/-- 43_header_validate_framesize.md R91, 32000 Hz, with padding 1. -/
theorem test_step_frames_32000 :
    [0xFFFA1AFF, 0xFFFA2AFF, 0xFFFA3AFF, 0xFFFA4AFF, 0xFFFA5AFF, 0xFFFA6AFF, 0xFFFA7AFF, 0xFFFA8AFF, 0xFFFA9AFF, 0xFFFAAAFF,
     0xFFFABAFF, 0xFFFACAFF, 0xFFFADAFF, 0xFFFAEAFF].map
        windowStep =
      [145, 181, 217, 253, 289, 361, 433, 505, 577, 721, 865, 1009, 1153, 1441].map
        (fun n => some (4, n, 1, .scanning)) := by decide

/-- 95_test_vectors.md 2.1. -/
theorem test_ssafe : ssafe 0#8 0#8 1#8 0#8 = 128 ∧ ssafe 0x12#8 0x34#8 0x56#8 0x78#8 = 38611832 ∧
    ssafe 0xFF#8 0xFF#8 0xFF#8 0xFF#8 = 268435455 ∧ ssafe 0x80#8 0x80#8 0x80#8 0x85#8 = 5 := by decide

/-- 41_sync_detect.md R74. -/
theorem test_syncDet : syncDet 0xFF#8 0xE0#8 = true ∧ syncDet 0xFF#8 0xDF#8 = false ∧ syncDet 0xFE#8 0xFB#8 = false ∧
    syncDet 0x7F#8 0xFF#8 = false := by decide

/-- 42_header_decode.md R83, row 6. -/
theorem test_splitH : splitH 0xFFFBEA00#32 = ⟨0x7FF#11, 3#2, 1#2, 1#1, 14#4, 2#2, 1#1, 0#9⟩ := by decide

/-- The host's duties of 70_reset_and_hazards.md R129. -/
theorem test_refusals : refusal (step { ready [] with lenIn := 4294964416 }) = some .lenBeyondMax ∧
    refusal (step { ready [1, 2, 3] with lenIn := 4 }) = some .lenBeyondMemory ∧
    refusal (step { scanAt [1, 2, 3] 0 with host := [.store 0 1#8] }) = some .bufferWrittenDuringScan ∧
    refusal (step { scanAt [1, 2, 3] 0 with host := [.place []] }) = some .bufferWrittenDuringScan := by decide

/-- `rst` driven and released between two steps of the block changes no register; seen by a step it does (log entry 17). -/
theorem test_rst_acts_in_a_step : regs (step { scanAt [0, 0, 0, 0] 1 with host := [.drive true false 0] }) = some (4, 1, 0, .scanning) ∧
    regs (step { scanAt [0, 0, 0, 0] 1 with rst := true }) = some (0, 0, 0, .done) := by decide

/-- `start` held at the end of a scan launches again (44_driving_loop.md R95; log entry 6). -/
theorem test_held_start : regs (step { ready [0, 0, 0, 0] with cur := 417, cnt := 1, len := 417 }) = some (4, 0, 0, .scanning) := by decide

/-! ### Witnesses: the hypotheses of the obligations can be met -/

/-- The launch duty on a small buffer. -/
theorem test_duty (l : List Nat) (h : decide (l.length ≤ Config.lenMax ∧ l.length ≤ (Memory.ofBytes 0 (bytes l)).extent) = true) :
    LaunchDuty (ready l) :=
  ⟨(of_decide_eq_true h).1, (of_decide_eq_true h).2⟩

/-- A step whose registers can be read answers a next state. -/
theorem test_next_of_regs {r : Result} (h : (regs r).isSome = true) : ∃ t, r = .next t := by
  cases r with
  | next t => exact ⟨t, rfl⟩
  | fault f => cases f
  | refused x => cases h

/-- A step whose refusal can be read is refused. -/
theorem test_refused {r : Result} {x : Refusal} (h : refusal r = some x) : r = .refused x := by
  cases r with
  | next t => cases h
  | fault f => cases f
  | refused y => cases h; rfl

/-- The tag of 95_test_vectors.md L14. -/
def bigTag : List Nat := [0x49, 0x44, 0x33, 3, 0, 0, 0x7F, 0x7F, 0x7F, 0x7F]

/-- The frame of 95_test_vectors.md L5. -/
def oneFrame : List Nat := [0xFF, 0xFB, 0x90, 0]

theorem test_witness_DecodeEncodeRoundTrip : (Instr.nosync ⟨0x7FE#11, 3#2, 3#2, 1#1, 15#4, 3#2, 1#1, 0x1FF#9⟩).wellFormed = true ∧
    (Instr.rejectSr3 0#1 14#4 0#1 0#9).wellFormed = true ∧ (Instr.launchNotag (some 0x494432FFFFFFFFFFFFFF#80)).wellFormed = true := by decide

theorem test_witness_EveryDecodedByteListIsItsEncoding : decode .window (bytes oneFrame) = .ok (.frame128_44100 1#1 0#1 0#9) ∧
    decode .tagHeader (bytes bigTag) = .ok (.launchTag 0x300#16 0#8 0x7F#8 0x7F#8 0x7F#8 0x7F#8) ∧ decode .noBytes [] = .ok .endScan := ⟨rfl, rfl, rfl⟩

theorem test_witness_StepRunsDecodedInstruction_wait : ({ scanAt oneFrame 0 with host := [.wait] }).host = .wait :: [] := rfl

theorem test_witness_StepRunsDecodedInstruction_end : (scanAt oneFrame 1).host = [] ∧ (scanAt oneFrame 1).rst = false ∧
    (scanAt oneFrame 1).st = .scanning ∧ (scanAt oneFrame 1).len < (scanAt oneFrame 1).cur + 4 := by decide

theorem test_witness_StepRunsDecodedInstruction_window : (scanAt oneFrame 0).rst = false ∧ (scanAt oneFrame 0).st = .scanning ∧
    (scanAt oneFrame 0).cur + 4 ≤ (scanAt oneFrame 0).len ∧ bufByte (scanAt oneFrame 0).buf 4 0 = some 0xFF#8 ∧
    bufByte (scanAt oneFrame 0).buf 4 (0 + 1) = some 0xFB#8 ∧ bufByte (scanAt oneFrame 0).buf 4 (0 + 2) = some 0x90#8 ∧
    bufByte (scanAt oneFrame 0).buf 4 (0 + 3) = some 0#8 ∧
    decode .window [0xFF#8, 0xFB#8, 0x90#8, 0x00#8] = .ok (.frame128_44100 1#1 0#1 0#9) := ⟨rfl, rfl, by decide, rfl, rfl, rfl, rfl, rfl⟩

theorem test_witness_StepRunsDecodedInstruction_launch : (ready oneFrame).rst = false ∧ (ready oneFrame).st = .done ∧
    (ready oneFrame).start = true ∧ (ready oneFrame).lenIn < 10 ∧ decode .tagHeader [] = .ok (.launchNotag none) := ⟨rfl, rfl, rfl, by decide, rfl⟩

theorem test_witness_StepRunsDecodedInstruction_tag : (ready bigTag).rst = false ∧ (ready bigTag).st = .done ∧ (ready bigTag).start = true ∧
    10 ≤ (ready bigTag).lenIn ∧ (bytes bigTag).length = 10 ∧
    (∀ k, k < 10 → bufByte (ready bigTag).buf (ready bigTag).lenIn k = (bytes bigTag)[k]?) ∧
    decode .tagHeader (bytes bigTag) = .ok (.launchTag 0x300#16 0#8 0x7F#8 0x7F#8 0x7F#8 0x7F#8) :=
  ⟨rfl, rfl, rfl, by decide, rfl, by decide, rfl⟩

theorem test_witness_FetchedTableWordRuns : decodeTableWord 0 7 = some .endScan ∧
    decodeTableWord 32 0xFFFFFFFF = some (.rejectLay3 1#1 15#4 3#2 1#1 0x1FF#9) ∧
    decodeTableWord 33 0 = some (.launchNotag (some 0#80)) ∧
    decodeTableWord 80 0x49443300000000000000 = some (.launchTag 0#16 0#8 0#8 0#8 0#8 0#8) := ⟨rfl, rfl, rfl, rfl⟩

theorem test_witness_SsafeConcatenatesSevenBitGroups : (268435455 : Nat) ≤ 268435455 := by decide

theorem test_witness_TagSkipOfBackedBuffer : (10 ≤ (ready bigTag).buf.extent ∧ tagPresent (ready bigTag).buf 10 0 = true) ∧
    (9 ≤ (ready bigTag).buf.extent ∧ tagPresent (ready bigTag).buf 9 0 = false) ∧
    (10 ≤ (ready bigTag).buf.extent ∧ tagPresent (ready bigTag).buf 10 1 = false) := by decide

theorem test_witness_LookupTablesAndFrameSizes : (14#4 ≠ 0#4 ∧ 14#4 ≠ 15#4 ∧ 2#2 ≠ 3#2) ∧ (1#4 ≠ 0#4 ∧ 1#4 ≠ 15#4 ∧ 0#2 ≠ 3#2) := by decide

theorem test_witness_ValidateVerdict : ∃ (w : Window) (f : FormatH) (n : Nat), f = splitH w ∧
    n = 144 * bitrateKbps f.bitrateIndex * 1000 / sampleRateHz f.sampleRateIndex + f.padding.toNat := ⟨0xFFFBEA00#32, _, _, rfl, rfl⟩

theorem test_witness_SizeBoundIsVacuous : versionLayerOk (splitH 0xFFFBEA00#32) = true ∧ indicesOk (splitH 0xFFFBEA00#32) = true ∧
    versionLayerOk (splitH 0xFFFB1400#32) = true ∧ indicesOk (splitH 0xFFFB1400#32) = true := by decide

theorem test_witness_DecodedRowAgreesWithValidator : (splitH 0xFFE00000#32).syncWord = 0x7FF#11 ∧ (splitH 0xFFFFFFFF#32).syncWord = 0x7FF#11 := by decide

theorem test_witness_IgnoredHeaderBitsChangeNothing : 0xFFFA9000#32 &&& 0xFFFEFE00#32 = 0xFFFB91FF#32 &&& 0xFFFEFE00#32 := by decide

theorem test_witness_WindowIsBigEndian : bufByte (scanAt oneFrame 0).buf 4 0 = some 0xFF#8 ∧ bufByte (scanAt oneFrame 0).buf 4 1 = some 0xFB#8 ∧
    bufByte (scanAt oneFrame 0).buf 4 2 = some 0x90#8 ∧ bufByte (scanAt oneFrame 0).buf 4 3 = some 0#8 := by decide

theorem test_witness_ReadRequestsAreInBounds : (scanAt oneFrame 0).memRequest = some (0, 4) ∧ (ready bigTag).memRequest = some (0, 10) ∧
    memRead (scanAt oneFrame 0).buf 4 0 3 = some 0xFFFB90 ∧ bufByte (scanAt oneFrame 0).buf 4 (0 + 3) = some 0#8 ∧
    memRead (ready bigTag).buf 10 0 10 = some 0x494433030000_7F7F7F7F := by decide

/-- The invariant of a scan. -/
theorem test_inv (l : List Nat) (c : Nat)
    (h : decide ((Memory.ofBytes 0 (bytes l)).wf ∧ l.length ≤ (Memory.ofBytes 0 (bytes l)).extent) = true) : Inv (scanAt l c) :=
  ⟨(of_decide_eq_true h).1, fun _ => (of_decide_eq_true h).2⟩

theorem test_witness_ReadRequestsAreInBounds_inv : Inv (scanAt oneFrame 0) := test_inv _ _ (by decide)

theorem test_witness_LaunchRowsComplete : LaunchDuty (ready bigTag) ∧ LaunchDuty (ready []) := ⟨test_duty _ (by decide), test_duty _ (by decide)⟩

theorem test_witness_LaunchStepSkipsTheTag : (ready bigTag).host = [] ∧ (ready bigTag).rst = false ∧ (ready bigTag).st = .done ∧
    (ready bigTag).start = true ∧ LaunchDuty (ready bigTag) := ⟨rfl, rfl, rfl, rfl, test_duty _ (by decide)⟩

theorem test_witness_LaunchRefusesBrokenLengthDuty : Instr.format (.launchNotag none) = .tagHeader ∧
    Config.lenMax < ({ ready [] with lenIn := 4294964416 } : State).lenIn ∧
    (({ ready [] with lenIn := 4294964415 } : State).lenIn ≤ Config.lenMax ∧
      ({ ready [] with lenIn := 4294964415 } : State).buf.extent < ({ ready [] with lenIn := 4294964415 } : State).lenIn) := by decide

theorem test_witness_EndCompletes : (scanAt [0, 0, 0] 0).host = [] ∧ (scanAt [0, 0, 0] 0).rst = false ∧ (scanAt [0, 0, 0] 0).st = .scanning ∧
    (scanAt [0, 0, 0] 0).cur + 4 > (scanAt [0, 0, 0] 0).len := by decide

theorem test_witness_NosyncCompletes : (scanAt [0xFF, 0xDF, 0, 0] 0).host = [] ∧ (scanAt [0xFF, 0xDF, 0, 0] 0).rst = false ∧
    (scanAt [0xFF, 0xDF, 0, 0] 0).st = .scanning ∧ (scanAt [0xFF, 0xDF, 0, 0] 0).cur + 4 ≤ (scanAt [0xFF, 0xDF, 0, 0] 0).len ∧
    readWindow (scanAt [0xFF, 0xDF, 0, 0] 0) = some 0xFFDF0000#32 ∧ syncHit (scanAt [0xFF, 0xDF, 0, 0] 0) = false := by decide

theorem test_witness_RejectRowsComplete : ([[0xFF, 0xF7, 0x90, 0], [0xFF, 0xFF, 0x90, 0], [0xFF, 0xFB, 0xF0, 0], [0xFF, 0xFB, 0x9C, 0]].map fun l =>
      let s := scanAt l 0
      (s.host, s.rst, s.st, decide (s.cur + 4 ≤ s.len), syncHit s, (readWindow s).map validate)) =
    [([], false, .scanning, true, true, some (.reject .version)), ([], false, .scanning, true, true, some (.reject .layer)),
     ([], false, .scanning, true, true, some (.reject .bitrate)), ([], false, .scanning, true, true, some (.reject .sampleRate))] := rfl

theorem test_witness_FrameStepCompletes : (scanAt oneFrame 0).host = [] ∧ (scanAt oneFrame 0).rst = false ∧ (scanAt oneFrame 0).st = .scanning ∧
    (scanAt oneFrame 0).cur + 4 ≤ (scanAt oneFrame 0).len ∧ readWindow (scanAt oneFrame 0) = some 0xFFFB9000#32 ∧
    syncHit (scanAt oneFrame 0) = true ∧ validate 0xFFFB9000#32 = .accept 417 := by decide

theorem test_witness_ExecNeverWritesBufferOrInputs : ∃ t, exec (.frame320_32000 1#1 1#1 0#9) (scanAt oneFrame 0) = .next t := test_next_of_regs (by decide)

theorem test_witness_RegistersHaveOnlyTheirWriters : (∃ t, exec (.frame32_48000 0#1 0#1 0#9) (scanAt oneFrame 0) = .next t) ∧
    countsFrame (.frame32_48000 0#1 0#1 0#9) = true ∧
    (∃ t, exec (.rejectLay3 0#1 0#4 0#2 0#1 0#9) (scanAt oneFrame 0) = .next t) ∧
    Instr.format (.rejectLay3 0#1 0#4 0#2 0#1 0#9) = .window ∧ countsFrame (.rejectLay3 0#1 0#4 0#2 0#1 0#9) = false ∧
    (∃ t, exec .endScan (scanAt oneFrame 0) = .next t) ∧
    (∃ t, exec (.launchNotag none) (ready oneFrame) = .next t) ∧ Instr.format (.launchNotag none) = .tagHeader :=
  ⟨test_next_of_regs (by decide), rfl, test_next_of_regs (by decide), rfl, rfl, test_next_of_regs (by decide),
    test_next_of_regs (by decide), rfl⟩

theorem test_witness_ResetStateValues : ({ scanAt oneFrame 0 with rst := true }).host = [] ∧ ({ scanAt oneFrame 0 with rst := true }).rst = true :=
  ⟨rfl, rfl⟩

theorem test_witness_DoneHolds : State.reset.host = [] ∧ State.reset.rst = false ∧ State.reset.st = .done ∧ State.reset.start = false := by decide

theorem test_witness_InputsIgnoredWhileScanning : (scanAt oneFrame 0).host = [] ∧ (scanAt oneFrame 0).st = .scanning := ⟨rfl, rfl⟩

theorem test_witness_HostActionsTouchOnlyTheirOwn :
    ({ scanAt oneFrame 0 with host := [.drive true false 3] }).host = .drive true false 3 :: [] ∧
    ({ scanAt oneFrame 0 with host := [.store 0 1#8] }).host = .store 0 1#8 :: [] ∧
    ({ scanAt oneFrame 0 with host := [.store 0 1#8] }).st = .scanning ∧
    ({ ready oneFrame with host := [.store 4 1#8] }).host = .store 4 1#8 :: [] ∧ ({ ready oneFrame with host := [.store 4 1#8] }).st = .done ∧
    ({ scanAt oneFrame 0 with host := [.place []] }).host = .place [] :: [] ∧ ({ scanAt oneFrame 0 with host := [.place []] }).st = .scanning ∧
    ({ ready oneFrame with host := [.place [1#8]] }).host = .place [1#8] :: [] ∧ ({ ready oneFrame with host := [.place [1#8]] }).st = .done :=
  ⟨rfl, rfl, rfl, rfl, rfl, rfl, rfl, rfl, rfl⟩

theorem test_witness_InvariantKeptByEveryStep : Inv (scanAt oneFrame 0) ∧ ∃ t, step (scanAt oneFrame 0) = .next t :=
  ⟨test_inv _ _ (by decide), test_next_of_regs (by decide)⟩

theorem test_witness_RegistersNeverWrap : Config.minWidth ≤ 29 ∧ BoundsFor 29 (scanAt oneFrame 0) ∧
    (scanAt oneFrame 0).lenIn ≤ Config.lenMaxOf 29 ∧ ∃ t, step (scanAt oneFrame 0) = .next t :=
  ⟨by decide, ⟨by decide, by decide, by decide, by decide⟩, by decide, test_next_of_regs (by decide)⟩

theorem test_witness_EveryScanStepProgresses : ((scanAt [0, 0, 0] 0).host = [] ∧ (scanAt [0, 0, 0] 0).rst = false ∧
      (scanAt [0, 0, 0] 0).st = .scanning ∧ ∃ t, step (scanAt [0, 0, 0] 0) = .next t) ∧
    ((scanAt [0, 0, 0, 0] 0).host = [] ∧ (scanAt [0, 0, 0, 0] 0).rst = false ∧ (scanAt [0, 0, 0, 0] 0).st = .scanning ∧
      ∃ t, step (scanAt [0, 0, 0, 0] 0) = .next t) ∧
    ((scanAt oneFrame 0).host = [] ∧ (scanAt oneFrame 0).rst = false ∧ (scanAt oneFrame 0).st = .scanning ∧
      ∃ t, step (scanAt oneFrame 0) = .next t) :=
  ⟨⟨rfl, rfl, rfl, test_next_of_regs (by decide)⟩, ⟨rfl, rfl, rfl, test_next_of_regs (by decide)⟩,
    ⟨rfl, rfl, rfl, test_next_of_regs (by decide)⟩⟩

theorem test_witness_BufferFixedDuringScan : (scanAt oneFrame 0).st = .scanning ∧ ∃ t, step (scanAt oneFrame 0) = .next t :=
  ⟨rfl, test_next_of_regs (by decide)⟩

theorem test_witness_OnlyBrokenDutiesAreRefused : (Inv { scanAt oneFrame 0 with host := [.store 0 1#8] } ∧
      step { scanAt oneFrame 0 with host := [.store 0 1#8] } = .refused .bufferWrittenDuringScan) ∧
    (Inv { ready [] with lenIn := 4294964416 } ∧ step { ready [] with lenIn := 4294964416 } = .refused .lenBeyondMax) ∧
    (Inv { ready [] with lenIn := 1 } ∧ step { ready [] with lenIn := 1 } = .refused .lenBeyondMemory) :=
  ⟨⟨test_inv oneFrame 0 (by decide), rfl⟩, ⟨⟨by decide, by decide⟩, test_refused (by decide)⟩, ⟨⟨by decide, by decide⟩, test_refused (by decide)⟩⟩

theorem test_witness_UnreadBytesChangeNothing_end : (scanAt oneFrame 1).host = [] ∧ (scanAt oneFrame 1).rst = false ∧
    (scanAt oneFrame 1).st = .scanning ∧ (scanAt oneFrame 1).len < (scanAt oneFrame 1).cur + 4 := by decide

theorem test_witness_UnreadBytesChangeNothing_window : (scanAt oneFrame 0).host = [] ∧ (scanAt oneFrame 0).st = .scanning ∧
    ∀ k, k < 4 → (Memory.ofBytes 0 (bytes (oneFrame ++ [7]))).read (0 + k) = (scanAt oneFrame 0).buf.read (0 + k) := by decide

/-- Another version and other flags, and a longer memory, under the same launch. -/
theorem test_witness_UnreadBytesChangeNothing_launch : (ready bigTag).host = [] ∧ (ready bigTag).st = .done ∧ (ready bigTag).start = true ∧
    LaunchDuty (ready bigTag) ∧ LaunchDuty ((ready bigTag).setBuf (Memory.ofBytes 0 (bytes [0x49, 0x44, 0x33, 4, 1, 2, 0x7F, 0x7F, 0x7F, 0x7F, 9]))) ∧
    (∀ k, k < 3 → (Memory.ofBytes 0 (bytes [0x49, 0x44, 0x33, 4, 1, 2, 0x7F, 0x7F, 0x7F, 0x7F, 9])).read k = (ready bigTag).buf.read k) ∧
    tagPresent (ready bigTag).buf (ready bigTag).lenIn 0 = true ∧
    ∀ k, k < 10 → 6 ≤ k → (Memory.ofBytes 0 (bytes [0x49, 0x44, 0x33, 4, 1, 2, 0x7F, 0x7F, 0x7F, 0x7F, 9])).read k = (ready bigTag).buf.read k :=
  ⟨rfl, rfl, rfl, test_duty _ (by decide), ⟨by decide, by decide⟩, by decide, by decide, by decide⟩

theorem test_witness_ScanComputesCountFrames : (ready oneFrame).host = [] ∧ (ready oneFrame).rst = false ∧ (ready oneFrame).st = .done ∧
    (ready oneFrame).start = true ∧ LaunchDuty (ready oneFrame) := ⟨rfl, rfl, rfl, rfl, test_duty _ (by decide)⟩

theorem test_witness_LoadedBufferIsCounted : ({ ready [0, 0] with host := [.place (bytes oneFrame), .drive false true (bytes oneFrame).length, .wait, .drive false false 0] }).st = .done ∧
    ({ ready [0, 0] with host := [.place (bytes oneFrame), .drive false true (bytes oneFrame).length, .wait, .drive false false 0] }).host =
      [.place (bytes oneFrame), .drive false true (bytes oneFrame).length, .wait, .drive false false 0] ∧
    (bytes oneFrame).length ≤ Config.lenMax := ⟨rfl, rfl, by decide⟩

theorem test_witness_ScanTerminatesWithinBound : Inv (scanAt oneFrame 0) ∧ (scanAt oneFrame 0).host = [] ∧ (scanAt oneFrame 0).rst = false ∧
    (scanAt oneFrame 0).st = .scanning := ⟨test_inv _ _ (by decide), rfl, rfl, rfl⟩

theorem test_witness_NoSyncMeansZero : NoCandidate (bytesOf (ready [0xFF, 0xDF, 0xFF, 0x00, 0xFE, 0xFB]).buf) 6 := by
  intro c h
  have : ∀ c, c < 5 → ¬ (bytesOf (ready [0xFF, 0xDF, 0xFF, 0x00, 0xFE, 0xFB]).buf c = 0xFF#8 ∧
    bytesOf (ready [0xFF, 0xDF, 0xFF, 0x00, 0xFE, 0xFB]).buf (c + 1) &&& 0xE0#8 = 0xE0#8) := by decide
  exact this c (by omega)

theorem test_witness_CountIsBounded : NoCandidate (bytesOf (ready [0, 0, 0, 0]).buf) 4 ∧ (4 : Nat) ≤ 4 ∧ (3 : Nat) < 4 ∧
    10 < initialCursor (bytesOf (ready bigTag).buf) 10 + 4 := by
  refine ⟨fun c h => ?_, by decide, by decide, by decide⟩
  have : ∀ c, c < 3 → ¬ (bytesOf (ready [0, 0, 0, 0]).buf c = 0xFF#8 ∧ bytesOf (ready [0, 0, 0, 0]).buf (c + 1) &&& 0xE0#8 = 0xE0#8) := by decide
  exact this c (by omega)

theorem test_witness_CountDependsOnlyOnTheBuffer :
    ∀ i, i < 4 → bytesOf (ready oneFrame).buf i = bytesOf (ready (oneFrame ++ [0xFF, 0xFB, 0x90, 0])).buf i := by decide

theorem test_witness_OversizedTagGivesZero : (ready bigTag).host = [] ∧ (ready bigTag).rst = false ∧ (ready bigTag).st = .done ∧
    (ready bigTag).start = true ∧ LaunchDuty (ready bigTag) ∧ tagPresent (ready bigTag).buf (ready bigTag).lenIn 0 = true ∧
    268435455 = ssafe (bytesOf (ready bigTag).buf 6) (bytesOf (ready bigTag).buf 7) (bytesOf (ready bigTag).buf 8) (bytesOf (ready bigTag).buf 9) ∧
    (ready bigTag).lenIn < 10 + 268435455 + 4 := ⟨rfl, rfl, rfl, rfl, test_duty _ (by decide), by decide, by decide, by decide⟩

theorem test_witness_TruncatedLastFrameIsCounted : (scanAt oneFrame 0).host = [] ∧ (scanAt oneFrame 0).rst = false ∧
    (scanAt oneFrame 0).st = .scanning ∧ (scanAt oneFrame 0).cur + 4 ≤ (scanAt oneFrame 0).len ∧
    readWindow (scanAt oneFrame 0) = some 0xFFFB9000#32 ∧ syncHit (scanAt oneFrame 0) = true ∧ validate 0xFFFB9000#32 = .accept 417 ∧
    (scanAt oneFrame 0).len < (scanAt oneFrame 0).cur + 417 + 4 := by decide

end Sys2Proof.Tests
end

/-! PROOFS. The family of 10_state.md: the bounds of the registers (R18), who writes which register (R11 to R16), progress of a
scan (R19), and what the result depends on (R26). -/

namespace Sys2Proof.Machine

/-! ### The bounds of R18, one lemma for each update of the registers -/

theorem BoundsFor.resetRegs (w : Nat) (s : State) : BoundsFor w s.resetRegs := by
  simp [BoundsFor]

/-- LAUNCH: the cursor behind the largest tag is within the first of the two bounds of CUR. -/
theorem BoundsFor.startScan {w n : Nat} {s : State} (hlen : s.lenIn ≤ Config.lenMaxOf w) (hn : n ≤ 2 ^ 28 + 9) :
    BoundsFor w (s.startScan n) := by
  simp only [BoundsFor, State.startScan_len, State.startScan_cur, State.startScan_cnt]
  exact ⟨hlen, by omega, by omega, fun h => absurd rfl h⟩

/-- NOSYNC and REJECT are run only where a window fits, so the cursor stays below LEN. -/
theorem BoundsFor.advance {w : Nat} {s : State} (h : BoundsFor w s) (hfit : s.cur + 4 ≤ s.len) : BoundsFor w (s.advance 1) := by
  obtain ⟨hlen, -, hspread, hcnt⟩ := h
  simp only [BoundsFor, State.advance_len, State.advance_cur, State.advance_cnt]
  exact ⟨hlen, by omega, by omega, hcnt⟩

/-- FRAME: the headers counted so far fill 96 bytes each below the cursor, which is at most LEN - 4. -/
theorem BoundsFor.countFrame {w n : Nat} {s : State} (h : BoundsFor w s) (hfit : s.cur + 4 ≤ s.len) (hmin : 96 ≤ n)
    (hmax : n ≤ 1441) : BoundsFor w (s.countFrame n) := by
  obtain ⟨hlen, -, hspread, -⟩ := h
  simp only [BoundsFor, State.countFrame_len, State.countFrame_cur, State.countFrame_cnt]
  exact ⟨hlen, by omega, by omega, fun _ => ⟨by omega, by omega⟩⟩

theorem BoundsFor.of_blockStep {w : Nat} {s t : State} (h : BoundsFor w s) (hlen : s.lenIn ≤ Config.lenMaxOf w)
    (e : blockStep s = .next t) : BoundsFor w t := by
  rcases blockStep_cases s with ⟨-, q⟩ | ⟨-, -, -, q⟩ | ⟨-, -, -, n, hn, q⟩ | ⟨-, -, -, q⟩ | ⟨-, -, hfit, n, hmin, hmax, q⟩ |
    ⟨-, -, hfit, q⟩ | ⟨-, -, -, -, q⟩ <;> rw [q] at e
  · cases e; exact .resetRegs w s
  · cases e; exact h
  · obtain ⟨-, rfl⟩ := launch_eq_next.mp e
    exact .startScan hlen hn
  · cases e; exact h
  · cases e; exact h.countFrame hfit hmin hmax
  · cases e; exact h.advance hfit
  · cases e

/-- The host reaches none of LEN, CUR and CNT. -/
theorem BoundsFor.of_hostAct {w : Nat} {a : HostAction} {s t : State} (h : BoundsFor w s) (e : hostAct a s = .next t) :
    BoundsFor w t := by
  obtain rfl | ⟨r, b, l, rfl⟩ | ⟨-, m, -, rfl⟩ := hostAct_next e <;> exact h

theorem BoundsFor.of_step {w : Nat} {s t : State} (h : BoundsFor w s) (hlen : s.lenIn ≤ Config.lenMaxOf w)
    (e : step s = .next t) : BoundsFor w t := by
  obtain ⟨l, q⟩ | ⟨a, l, -, -, q⟩ := step_cases s
  · exact BoundsFor.of_blockStep (s := s.setHost l) h hlen (q.symm.trans e)
  · exact BoundsFor.of_hostAct (s := s.setHost l) h (q.symm.trans e)

/-- The end test `CUR + 4 > LEN` does not wrap: this is where `LEN_MAX = 2^W - 2881` and `W >= 29` come from. -/
theorem BoundsFor.cur_lt {w : Nat} {s : State} (h : BoundsFor w s) (hw : Config.minWidth ≤ w) : s.cur + 4 < 2 ^ w := by
  obtain ⟨hlen, hcur, -, -⟩ := h
  have hmax : s.len ≤ 2 ^ w - 2881 := hlen
  have hpow : 2 ^ 29 ≤ 2 ^ w := Nat.pow_le_pow_right (by decide) hw
  omega

theorem BoundsFor.cnt_le {w : Nat} {s : State} (h : BoundsFor w s) : s.cnt ≤ s.len - 3 := by
  obtain ⟨-, -, -, hcnt⟩ := h
  omega

theorem BoundsFor.cnt_lt {w : Nat} {s : State} (h : BoundsFor w s) (hw : Config.minWidth ≤ w) : s.cnt < 2 ^ w := by
  have hcur := h.cur_lt hw
  obtain ⟨-, -, hspread, -⟩ := h
  omega

/-- Settles O36: the bounds are kept by every step, and they imply the rest. -/
theorem registersNeverWrap : Obligations.RegistersNeverWrap := by
  intro w s t hw h hlen e
  have ht := h.of_step hlen e
  obtain ⟨-, hcur, -, -⟩ := id ht
  exact ⟨ht, hcur, ht.cur_lt hw, ht.cnt_le, ht.cnt_lt hw⟩

/-! ### What the instructions write -/

/-- The next states an instruction can answer, by the format of its row and by whether it counts. -/
theorem exec_next {i : Instr} {s t : State} (e : exec i s = .next t) :
    (i.format = .tagHeader ∧ ∃ n, t = s.startScan n) ∨
    (i = .endScan ∧ t = s.finish) ∨
    (i.format = .window ∧ countsFrame i = true ∧ ∃ n, t = s.countFrame n) ∨
    (i.format = .window ∧ countsFrame i = false ∧ t = s.advance 1) := by
  rcases exec_cases i s with ⟨hf, n, -, q⟩ | ⟨hi, q⟩ | ⟨hf, hc, n, -, -, q⟩ | ⟨hf, hc, q⟩ <;> rw [q] at e
  · exact .inl ⟨hf, n, (launch_eq_next.mp e).2⟩
  · cases e; exact .inr (.inl ⟨hi, rfl⟩)
  · cases e; exact .inr (.inr (.inl ⟨hf, hc, n, rfl⟩))
  · cases e; exact .inr (.inr (.inr ⟨hf, hc, rfl⟩))

/-- Settles O28: none of the four updates an instruction can make reaches BUF, an input or the host's actions. -/
theorem execNeverWritesBufferOrInputs : Obligations.ExecNeverWritesBufferOrInputs := by
  intro i s t e
  obtain ⟨-, n, rfl⟩ | ⟨-, rfl⟩ | ⟨-, -, n, rfl⟩ | ⟨-, -, rfl⟩ := exec_next e <;>
    exact ⟨fun _ => rfl, rfl, rfl, rfl, rfl, rfl⟩

/-- The rows that count are rows of windows. -/
theorem format_of_countsFrame {i : Instr} (h : countsFrame i = true) : i.format = .window := by
  unfold countsFrame at h
  split at h
  · cases h
  · simp only [Bool.and_eq_true, beq_iff_eq] at h
    exact h.1

/-- Settles O29: the format and `countsFrame` of a row fix which of the four updates it makes. -/
theorem registersHaveOnlyTheirWriters : Obligations.RegistersHaveOnlyTheirWriters := by
  intro i s t e
  obtain ⟨hf, n, rfl⟩ | ⟨rfl, rfl⟩ | ⟨hf, hc, n, rfl⟩ | ⟨hf, hc, rfl⟩ := exec_next e
  · refine ⟨fun hn => ?_, fun hw => ?_, fun he => ?_, fun _ => ⟨rfl, rfl, rfl⟩⟩
    · cases hf.symm.trans (format_of_countsFrame hn)
    · cases hf.symm.trans hw
    · subst he; cases hf
  · exact ⟨nofun, nofun, fun _ => ⟨rfl, rfl, rfl, rfl⟩, nofun⟩
  · refine ⟨fun _ => ⟨rfl, rfl, rfl⟩, fun _ hn => ?_, fun he => ?_, fun ht => ?_⟩
    · cases hc.symm.trans hn
    · subst he; cases hf
    · cases hf.symm.trans ht
  · refine ⟨fun hn => ?_, fun _ _ => ⟨rfl, rfl, rfl, rfl⟩, fun he => ?_, fun ht => ?_⟩
    · cases hc.symm.trans hn
    · subst he; cases hf
    · cases hf.symm.trans ht

/-! ### Progress of a scan -/

/-- What a step of the block can do in a scan, where it is not refused. -/
theorem blockStep_scanning_next {s t : State} (hr : s.rst = false) (hc : s.st = .scanning) (e : blockStep s = .next t) :
    (s.len < s.cur + 4 ∧ t = s.finish) ∨
    (s.cur + 4 ≤ s.len ∧ ∃ n, 96 ≤ n ∧ n ≤ 1441 ∧ t = s.countFrame n) ∨
    (s.cur + 4 ≤ s.len ∧ t = s.advance 1) := by
  rcases blockStep_cases s with ⟨hr', -⟩ | ⟨-, hd, -⟩ | ⟨-, hd, -⟩ | ⟨-, -, he, q⟩ | ⟨-, -, he, n, hmin, hmax, q⟩ |
    ⟨-, -, he, q⟩ | ⟨-, -, -, -, q⟩
  · cases hr.symm.trans hr'
  · cases hc.symm.trans hd
  · cases hc.symm.trans hd
  · cases q.symm.trans e; exact .inl ⟨he, rfl⟩
  · cases q.symm.trans e; exact .inr (.inl ⟨he, n, hmin, hmax, rfl⟩)
  · cases q.symm.trans e; exact .inr (.inr ⟨he, rfl⟩)
  · cases q.symm.trans e

/-- Settles O37, by the three things a scan's step can do. -/
theorem everyScanStepProgresses : Obligations.EveryScanStepProgresses := by
  intro s t hh hr hc e
  rw [step_nil hh] at e
  obtain ⟨he, rfl⟩ | ⟨he, n, hmin, hmax, rfl⟩ | ⟨he, rfl⟩ := blockStep_scanning_next hr hc e
  · exact ⟨rfl, rfl, .inl ⟨he, rfl, rfl, rfl⟩⟩
  · exact ⟨rfl, rfl, .inr (.inr ⟨he, hc, Nat.add_le_add_left hmin _, Nat.add_le_add_left hmax _, rfl⟩)⟩
  · exact ⟨rfl, rfl, .inr (.inl ⟨he, hc, rfl, rfl⟩)⟩

/-! ### The result depends on the bytes below LEN -/

section AgreeBelow

variable {byte byte' : Nat → Byte} {len : Nat} (h : ∀ i, i < len → byte i = byte' i)
include h

theorem windowAt_congr {c : Nat} (hc : c + 4 ≤ len) : windowAt byte c = windowAt byte' c := by
  simp only [windowAt, h c (by omega), h (c + 1) (by omega), h (c + 2) (by omega), h (c + 3) (by omega)]

theorem initialCursor_congr : initialCursor byte len = initialCursor byte' len := by
  by_cases h10 : 10 ≤ len
  · have hb : ∀ i, i < 10 → byte i = byte' i := fun i hi => h i (by omega)
    simp only [initialCursor, hb 0 (by decide), hb 1 (by decide), hb 2 (by decide), hb 6 (by decide), hb 7 (by decide),
      hb 8 (by decide), hb 9 (by decide)]
  · simp only [initialCursor, h10, false_and, if_false]

/-- The loop looks at a window only where it fits below LEN. -/
theorem countLoop_congr (fuel : Nat) : ∀ cur cnt, countLoop byte len fuel cur cnt = countLoop byte' len fuel cur cnt := by
  induction fuel with
  | zero => exact fun _ _ => rfl
  | succ fuel ih =>
    intro cur cnt
    by_cases hend : len < cur + 4
    · simp only [countLoop, if_pos hend]
    · have hw := windowAt_congr h (show cur + 4 ≤ len by omega)
      simp only [countLoop, if_neg hend, h cur (by omega), h (cur + 1) (by omega), hw, ih]

end AgreeBelow

/-- Settles O45: neither the initial cursor nor the loop looks at a byte at LEN or behind it. -/
theorem countDependsOnlyOnTheBuffer : Obligations.CountDependsOnlyOnTheBuffer := by
  intro byte byte' len h
  rw [countFrames, countFrames, initialCursor_congr h, countLoop_congr h]

/-! ### Reset -/

theorem Inv.reset : Inv State.reset := ⟨List.Pairwise.nil, nofun⟩

/-- Settles O35; the registers at reset are those that `rst` gives (R23), so its bounds hold here too. -/
theorem invariantsHoldAtReset : Obligations.InvariantsHoldAtReset :=
  ⟨Inv.reset, fun w _ => BoundsFor.resetRegs w State.reset⟩

end Sys2Proof.Machine

/-! PROOFS. The family of 20_memory.md: the memory invariant along every step (R32, R38), splitting a read (R33, R35, R36), the bounds
of the reads (R32, R44), and the bytes that can influence a step (R34, R43). -/

namespace Sys2Proof.Machine

/-! ### What a step does to BUF and to the bound of a scan -/

/-- The block never writes BUF, and it scans with the LEN it had or with a `len` that keeps the launch duty. -/
theorem blockStep_next {s t : State} (e : blockStep s = .next t) :
    t.buf = s.buf ∧ (t.st = .scanning → (s.st = .scanning ∧ t.len = s.len) ∨ (LaunchDuty s ∧ t.len = s.lenIn)) := by
  rcases blockStep_cases s with ⟨-, q⟩ | ⟨-, -, -, q⟩ | ⟨-, -, -, n, -, q⟩ | ⟨-, -, -, q⟩ | ⟨-, -, -, n, -, -, q⟩ |
    ⟨-, -, -, q⟩ | ⟨-, -, -, -, q⟩ <;> rw [q] at e
  · cases e; exact ⟨rfl, nofun⟩
  · cases e; exact ⟨rfl, fun hc => .inl ⟨hc, rfl⟩⟩
  · obtain ⟨hd, rfl⟩ := launch_eq_next.mp e
    exact ⟨rfl, fun _ => .inr ⟨hd, rfl⟩⟩
  · cases e; exact ⟨rfl, nofun⟩
  · cases e; exact ⟨rfl, fun hc => .inl ⟨hc, rfl⟩⟩
  · cases e; exact ⟨rfl, fun hc => .inl ⟨hc, rfl⟩⟩
  · cases e

/-- A launch is within the memory by the host's duty, and BUF does not change afterwards. -/
theorem Inv.of_blockStep {s t : State} (h : Inv s) (e : blockStep s = .next t) : Inv t := by
  obtain ⟨hwf, hlen⟩ := h
  obtain ⟨hbuf, hscan⟩ := blockStep_next e
  rw [Inv, hbuf]
  refine ⟨hwf, fun hc => ?_⟩
  obtain ⟨hs, hl⟩ | ⟨⟨-, hx⟩, hl⟩ := hscan hc
  · exact hl ▸ hlen hs
  · exact hl ▸ hx

/-- The host replaces the memory only in Done, where no scan has to lie inside it. -/
theorem Inv.of_hostAct {a : HostAction} {s t : State} (h : Inv s) (e : hostAct a s = .next t) : Inv t := by
  obtain rfl | ⟨r, b, l, rfl⟩ | ⟨hd, m, hm, rfl⟩ := hostAct_next e
  · exact h
  · exact h
  · exact ⟨hm h.1, fun hc => nomatch hd.symm.trans hc⟩

/-- Settles O34: the block and every host action keep the invariant. -/
theorem invariantKeptByEveryStep : Obligations.InvariantKeptByEveryStep := by
  intro s t h e
  obtain ⟨l, q⟩ | ⟨a, l, -, -, q⟩ := step_cases s
  · exact Inv.of_blockStep (s := s.setHost l) h (q.symm.trans e)
  · exact Inv.of_hostAct (s := s.setHost l) h (q.symm.trans e)

/-- Settles O38: the block writes no byte, and a host write in Scanning answers no next state. -/
theorem bufferFixedDuringScan : Obligations.BufferFixedDuringScan := by
  intro s t hc e
  suffices hbuf : t.buf = s.buf from ⟨hbuf, fun a => by rw [hbuf]⟩
  obtain ⟨l, q⟩ | ⟨a, l, -, -, q⟩ := step_cases s
  · exact (blockStep_next (q.symm.trans e)).1
  · obtain rfl | ⟨r, b, n, rfl⟩ | ⟨hd, m, -, rfl⟩ := hostAct_next (q.symm.trans e)
    · rfl
    · rfl
    · exact nomatch hc.symm.trans hd

/-! ### Reads: splitting, assembling, bounds -/

/-- Settles O17, by induction on the parts: the first part splits off the one read. -/
theorem readsMayBeSplitAnyhow : Obligations.ReadsMayBeSplitAnyhow := by
  intro m len addr parts
  induction parts generalizing addr with
  | nil => rfl
  | cons n ns ih => rw [readInParts, List.sum_cons, memRead_add, ih]

/-- The reads of 20_memory.md R34. -/
theorem memRequest_eq_some {s : State} {a n : Nat} : s.memRequest = some (a, n) ↔
    s.rst = false ∧ ((s.st = .done ∧ s.start = true ∧ 10 ≤ s.lenIn ∧ a = 0 ∧ n = 10) ∨
      (s.st = .scanning ∧ s.cur + 4 ≤ s.len ∧ a = s.cur ∧ n = 4)) := by
  cases hd : s.st with
  | done => simp [State.memRequest, hd, and_assoc, eq_comm (a := 0) (b := a), eq_comm (a := 10) (b := n)]
  | scanning => simp [State.memRequest, hd, atEnd, eq_comm (b := a), eq_comm (a := 4) (b := n)]

theorem memRequest_le {s : State} {a n : Nat} (h : s.memRequest = some (a, n)) :
    a + n ≤ if s.st = .done then s.lenIn else s.len := by
  obtain ⟨-, ⟨hd, -, hl, rfl, rfl⟩ | ⟨hc, hl, rfl, rfl⟩⟩ := memRequest_eq_some.mp h
  · rw [if_pos hd]; omega
  · rw [if_neg (by rw [hc]; nofun)]; exact hl

/-- One more byte is the new least significant one. -/
theorem memRead_succ {m : Memory} {len a n v : Nat} {b : Byte} (hv : memRead m len a n = some v)
    (hb : bufByte m len (a + n) = some b) : memRead m len a (n + 1) = some (256 * v + b.toNat) := by
  simp only [memRead, hv, hb]

/-- The last byte of an answered read lies below LEN. -/
theorem le_of_memRead {m : Memory} {len a n v : Nat} (hn : 0 < n) (hv : memRead m len a n = some v) : a + n ≤ len := by
  obtain ⟨b, hb⟩ := Option.isSome_iff_exists.mp (bufByte_of_memRead n hv (n - 1) (by omega))
  obtain ⟨hlt, -⟩ := bufByte_eq_some.mp hb
  omega

/-- What the block is refused for, and where. -/
theorem blockStep_refused {s : State} {r : Refusal} (e : blockStep s = .refused r) :
    (s.st = .done ∧ s.start = true ∧
      ((r = .lenBeyondMax ∧ Config.lenMax < s.lenIn) ∨ (r = .lenBeyondMemory ∧ s.buf.extent < s.lenIn))) ∨
    (s.st = .scanning ∧ s.cur + 4 ≤ s.len ∧ readWindow s = none ∧ r = .readUnanswered) := by
  rcases blockStep_cases s with ⟨-, q⟩ | ⟨-, -, -, q⟩ | ⟨-, hd, hs, n, -, q⟩ | ⟨-, -, -, q⟩ | ⟨-, -, -, n, -, -, q⟩ |
    ⟨-, -, -, q⟩ | ⟨-, hc, he, hw, q⟩ <;> rw [q] at e
  · cases e
  · cases e
  · exact .inl ⟨hd, hs, launch_eq_refused e⟩
  · cases e
  · cases e
  · cases e
  · cases e; exact .inr ⟨hc, he, hw, rfl⟩

/-- The one refusal of a host action, a write in Scanning. -/
theorem hostAct_refused {a : HostAction} {s : State} {r : Refusal} (e : hostAct a s = .refused r) :
    r = .bufferWrittenDuringScan ∧ s.st = .scanning ∧ ((∃ o v, a = .store o v) ∨ ∃ bs, a = .place bs) := by
  cases a with
  | wait => cases e
  | drive r b l => cases e
  | store o v =>
    simp only [hostAct] at e
    split at e <;> cases e
    exact ⟨rfl, ‹_›, .inl ⟨o, v, rfl⟩⟩
  | place bs =>
    simp only [hostAct] at e
    split at e <;> cases e
    exact ⟨rfl, ‹_›, .inr ⟨bs, rfl⟩⟩

/-- In a state of the invariant the memory answers every window. -/
theorem Inv.blockStep_answered {s : State} (h : Inv s) : blockStep s ≠ .refused .readUnanswered := by
  intro e
  obtain ⟨-, -, ⟨hr, -⟩ | ⟨hr, -⟩⟩ | ⟨hc, he, hw, -⟩ := blockStep_refused e
  · cases hr
  · cases hr
  · have hsome := readWindow_isSome he (h.2 hc)
    rw [hw] at hsome
    cases hsome

theorem Inv.step_answered {s : State} (h : Inv s) : step s ≠ .refused .readUnanswered := by
  obtain ⟨l, q⟩ | ⟨a, l, -, -, q⟩ := step_cases s <;> rw [q]
  · exact Inv.blockStep_answered (s := s.setHost l) h
  · exact fun e => nomatch (hostAct_refused e).1

/-- Settles O18, by one lemma for each of its four clauses. -/
theorem readRequestsAreInBounds : Obligations.ReadRequestsAreInBounds :=
  ⟨fun _ _ _ => memRequest_le, fun _ _ _ _ _ _ => memRead_succ, fun _ _ _ _ _ => le_of_memRead, fun _ => Inv.step_answered⟩

/-! ### Bytes that are not read -/

theorem bufByte_congr {m m' : Memory} {len i : Nat} (h : m.read i = m'.read i) : bufByte m len i = bufByte m' len i := by
  rw [bufByte, bufByte, h]

/-- The window depends on the four bytes at CUR only. -/
theorem readWindow_setBuf {s : State} {m : Memory} (h : ∀ k, k < 4 → m.read (s.cur + k) = s.buf.read (s.cur + k)) :
    readWindow (s.setBuf m) = readWindow s :=
  congrArg (Option.map (BitVec.ofNat 32)) (memRead_congr 4 fun k hk => bufByte_congr (h k hk))

/-- Once its window is read, a step does not look at BUF. -/
theorem exec_decodeWindow_setBuf (w : Window) (s : State) (m : Memory) :
    exec (decodeWindow w) (s.setBuf m) = onNext (State.setBuf m) (exec (decodeWindow w) s) := by
  rw [exec_decodeWindow, exec_decodeWindow]
  split <;> rfl

theorem blockStep_setBuf_of_rst {s : State} (hr : s.rst = true) (m : Memory) :
    blockStep (s.setBuf m) = onNext (State.setBuf m) (blockStep s) := by
  rw [blockStep_rst hr, blockStep_rst (s := s.setBuf m) hr]; rfl

/-- In a scan BUF is looked at through the window only, and only where one fits below LEN. -/
theorem blockStep_setBuf_of_scanning {s : State} {m : Memory} (hc : s.st = .scanning)
    (hw : s.cur + 4 ≤ s.len → readWindow (s.setBuf m) = readWindow s) :
    blockStep (s.setBuf m) = onNext (State.setBuf m) (blockStep s) := by
  cases hr : s.rst with
  | true => exact blockStep_setBuf_of_rst hr m
  | false =>
    rcases Nat.lt_or_ge s.len (s.cur + 4) with he | he
    · rw [blockStep_end hr hc he, blockStep_end (s := s.setBuf m) hr hc he]; rfl
    · cases hs : readWindow s with
      | none =>
        rw [blockStep_unanswered hr hc he hs, blockStep_unanswered (s := s.setBuf m) hr hc he ((hw he).trans hs)]; rfl
      | some w =>
        rw [blockStep_window hr hc he hs, blockStep_window (s := s.setBuf m) hr hc he ((hw he).trans hs),
          exec_decodeWindow_setBuf]

/-- TAGDET on a buffer behind the port (40_tag_skip.md R62). -/
theorem tagPresent_iff {m : Memory} {len off : Nat} (hx : len ≤ m.extent) : tagPresent m len off = true ↔
    off + 10 ≤ len ∧ bytesOf m off = 0x49#8 ∧ bytesOf m (off + 1) = 0x44#8 ∧ bytesOf m (off + 2) = 0x33#8 := by
  by_cases h10 : off + 10 ≤ len
  · simp [tagPresent, h10, bufByte_of_extent hx (show off < len by omega), bufByte_of_extent hx (show off + 1 < len by omega),
      bufByte_of_extent hx (show off + 2 < len by omega), and_assoc]
  · simp [tagPresent, h10]

/-- The initial cursor depends on the marker's bytes and, behind a marker, on the size's. -/
theorem initialCursor_congr_of_tag {m m' : Memory} {len : Nat} (hx : len ≤ m.extent) (hm : ∀ k, k < 3 → m'.read k = m.read k)
    (hs : tagPresent m len 0 = true → ∀ k, 6 ≤ k → k < 10 → m'.read k = m.read k) :
    initialCursor (bytesOf m') len = initialCursor (bytesOf m) len := by
  have hb {k : Nat} (e : m'.read k = m.read k) : bytesOf m' k = bytesOf m k := congrArg (·.getD 0#8) e
  rw [initialCursor, initialCursor, hb (hm 0 (by decide)), hb (hm 1 (by decide)), hb (hm 2 (by decide))]
  refine ite_congr rfl (fun htag => ?_) fun _ => rfl
  have hsize := hs ((tagPresent_iff hx).mpr htag)
  rw [hb (hsize 6 (by decide) (by decide)), hb (hsize 7 (by decide) (by decide)), hb (hsize 8 (by decide) (by decide)),
    hb (hsize 9 (by decide) (by decide))]

/-- A dutiful launch looks at BUF through the initial cursor only. -/
theorem blockStep_setBuf_of_launch {s : State} {m : Memory} (hd : s.st = .done) (hs : s.start = true) (h : LaunchDuty s)
    (h' : LaunchDuty (s.setBuf m)) (hcur : initialCursor (bytesOf m) s.lenIn = initialCursor (bytesOf s.buf) s.lenIn) :
    blockStep (s.setBuf m) = onNext (State.setBuf m) (blockStep s) := by
  cases hr : s.rst with
  | true => exact blockStep_setBuf_of_rst hr m
  | false =>
    rw [blockStep_launch hr hd hs, blockStep_launch (s := s.setBuf m) hr hd hs, exec_decodeTag_of_duty h,
      exec_decodeTag_of_duty h', launch_of_duty h, launch_of_duty h', State.setBuf_buf, State.setBuf_lenIn, hcur]
    rfl

/-- Settles O40: END reads nothing, a window step its window, LAUNCH the bytes of the initial cursor. -/
theorem unreadBytesChangeNothing : Obligations.UnreadBytesChangeNothing := by
  intro s m hh
  rw [step_nil hh, step_nil (s := s.setBuf m) hh]
  refine ⟨fun _ hc he => ?_, fun hc hb => ?_, fun hd hs h h' hm ht => ?_⟩
  · exact blockStep_setBuf_of_scanning hc fun hfit => absurd he (by omega)
  · exact blockStep_setBuf_of_scanning hc fun _ => readWindow_setBuf hb
  · exact blockStep_setBuf_of_launch hd hs h h' (initialCursor_congr_of_tag h.2 hm ht)

end Sys2Proof.Machine

/-! PROOFS. The family of 30_encoding.md: decoding and encoding undo each other (R46, R49, R51, R54), the decoder rejects lengths
only (R53, R55), the row of a window is the first match of the opcode table and the one the validator asks for (R51), and the
bytes of a window (R47, R48). -/

namespace Sys2Proof.Machine

/-! ### From an instruction to its bytes and back -/

/-- The round trip of each row, gathered over the constructors. -/
theorem encode_roundTrip (i : Instr) : Laws.RoundTrip.Statement i := by
  cases i with
  | launchTag => exact Laws.RoundTrip.launchTag _ _ _ _ _ _
  | launchNotag => exact Laws.RoundTrip.launchNotag _
  | endScan => exact Laws.RoundTrip.endScan
  | rejectVer0 => exact Laws.RoundTrip.rejectVer0 _ _ _ _ _ _
  | rejectVer1 => exact Laws.RoundTrip.rejectVer1 _ _ _ _ _ _
  | rejectVer2 => exact Laws.RoundTrip.rejectVer2 _ _ _ _ _ _
  | rejectLay0 => exact Laws.RoundTrip.rejectLay0 _ _ _ _ _
  | rejectLay2 => exact Laws.RoundTrip.rejectLay2 _ _ _ _ _
  | rejectLay3 => exact Laws.RoundTrip.rejectLay3 _ _ _ _ _
  | rejectBr0 => exact Laws.RoundTrip.rejectBr0 _ _ _ _
  | rejectBr15 => exact Laws.RoundTrip.rejectBr15 _ _ _ _
  | rejectSr3 => exact Laws.RoundTrip.rejectSr3 _ _ _ _
  | frame32_44100 => exact Laws.RoundTrip.frame32_44100 _ _ _
  | frame32_48000 => exact Laws.RoundTrip.frame32_48000 _ _ _
  | frame32_32000 => exact Laws.RoundTrip.frame32_32000 _ _ _
  | frame40_44100 => exact Laws.RoundTrip.frame40_44100 _ _ _
  | frame40_48000 => exact Laws.RoundTrip.frame40_48000 _ _ _
  | frame40_32000 => exact Laws.RoundTrip.frame40_32000 _ _ _
  | frame48_44100 => exact Laws.RoundTrip.frame48_44100 _ _ _
  | frame48_48000 => exact Laws.RoundTrip.frame48_48000 _ _ _
  | frame48_32000 => exact Laws.RoundTrip.frame48_32000 _ _ _
  | frame56_44100 => exact Laws.RoundTrip.frame56_44100 _ _ _
  | frame56_48000 => exact Laws.RoundTrip.frame56_48000 _ _ _
  | frame56_32000 => exact Laws.RoundTrip.frame56_32000 _ _ _
  | frame64_44100 => exact Laws.RoundTrip.frame64_44100 _ _ _
  | frame64_48000 => exact Laws.RoundTrip.frame64_48000 _ _ _
  | frame64_32000 => exact Laws.RoundTrip.frame64_32000 _ _ _
  | frame80_44100 => exact Laws.RoundTrip.frame80_44100 _ _ _
  | frame80_48000 => exact Laws.RoundTrip.frame80_48000 _ _ _
  | frame80_32000 => exact Laws.RoundTrip.frame80_32000 _ _ _
  | frame96_44100 => exact Laws.RoundTrip.frame96_44100 _ _ _
  | frame96_48000 => exact Laws.RoundTrip.frame96_48000 _ _ _
  | frame96_32000 => exact Laws.RoundTrip.frame96_32000 _ _ _
  | frame112_44100 => exact Laws.RoundTrip.frame112_44100 _ _ _
  | frame112_48000 => exact Laws.RoundTrip.frame112_48000 _ _ _
  | frame112_32000 => exact Laws.RoundTrip.frame112_32000 _ _ _
  | frame128_44100 => exact Laws.RoundTrip.frame128_44100 _ _ _
  | frame128_48000 => exact Laws.RoundTrip.frame128_48000 _ _ _
  | frame128_32000 => exact Laws.RoundTrip.frame128_32000 _ _ _
  | frame160_44100 => exact Laws.RoundTrip.frame160_44100 _ _ _
  | frame160_48000 => exact Laws.RoundTrip.frame160_48000 _ _ _
  | frame160_32000 => exact Laws.RoundTrip.frame160_32000 _ _ _
  | frame192_44100 => exact Laws.RoundTrip.frame192_44100 _ _ _
  | frame192_48000 => exact Laws.RoundTrip.frame192_48000 _ _ _
  | frame192_32000 => exact Laws.RoundTrip.frame192_32000 _ _ _
  | frame224_44100 => exact Laws.RoundTrip.frame224_44100 _ _ _
  | frame224_48000 => exact Laws.RoundTrip.frame224_48000 _ _ _
  | frame224_32000 => exact Laws.RoundTrip.frame224_32000 _ _ _
  | frame256_44100 => exact Laws.RoundTrip.frame256_44100 _ _ _
  | frame256_48000 => exact Laws.RoundTrip.frame256_48000 _ _ _
  | frame256_32000 => exact Laws.RoundTrip.frame256_32000 _ _ _
  | frame320_44100 => exact Laws.RoundTrip.frame320_44100 _ _ _
  | frame320_48000 => exact Laws.RoundTrip.frame320_48000 _ _ _
  | frame320_32000 => exact Laws.RoundTrip.frame320_32000 _ _ _
  | nosync => exact Laws.RoundTrip.nosync _

/-- Settles O1, by the round trip of each row. -/
theorem decodeEncodeRoundTrip : Obligations.DecodeEncodeRoundTrip := encode_roundTrip

/-! ### The row of a window, by its fields -/

/-- The FRAME row of a pair of indices, as `classifyH` asks for it (30_encoding.md R52). -/
def frameRow (b : BitVec 4) (r : BitVec 2) (u p : BitVec 1) (x : BitVec 9) : Instr :=
  if r = 0#2 then frameRow44100 b u p x else if r = 1#2 then frameRow48000 b u p x else frameRow32000 b u p x

/-- The format H rows of 30_encoding.md R51: the fields that select a row, and the instruction of its words. -/
inductive RowOf : FormatH → Instr → Prop where
  | nosync (f) : f.syncWord ≠ 0x7FF#11 → RowOf f (.nosync f)
  | rejectVer0 (l u b r p x) : RowOf ⟨0x7FF#11, 0#2, l, u, b, r, p, x⟩ (.rejectVer0 l u b r p x)
  | rejectVer1 (l u b r p x) : RowOf ⟨0x7FF#11, 1#2, l, u, b, r, p, x⟩ (.rejectVer1 l u b r p x)
  | rejectVer2 (l u b r p x) : RowOf ⟨0x7FF#11, 2#2, l, u, b, r, p, x⟩ (.rejectVer2 l u b r p x)
  | rejectLay0 (u b r p x) : RowOf ⟨0x7FF#11, 3#2, 0#2, u, b, r, p, x⟩ (.rejectLay0 u b r p x)
  | rejectLay2 (u b r p x) : RowOf ⟨0x7FF#11, 3#2, 2#2, u, b, r, p, x⟩ (.rejectLay2 u b r p x)
  | rejectLay3 (u b r p x) : RowOf ⟨0x7FF#11, 3#2, 3#2, u, b, r, p, x⟩ (.rejectLay3 u b r p x)
  | rejectBr0 (u r p x) : RowOf ⟨0x7FF#11, 3#2, 1#2, u, 0#4, r, p, x⟩ (.rejectBr0 u r p x)
  | rejectBr15 (u r p x) : RowOf ⟨0x7FF#11, 3#2, 1#2, u, 15#4, r, p, x⟩ (.rejectBr15 u r p x)
  | rejectSr3 (u b p x) : b ≠ 0#4 → b ≠ 15#4 → RowOf ⟨0x7FF#11, 3#2, 1#2, u, b, 3#2, p, x⟩ (.rejectSr3 u b p x)
  | frame (u b r p x) : b ≠ 0#4 → b ≠ 15#4 → r ≠ 3#2 → RowOf ⟨0x7FF#11, 3#2, 1#2, u, b, r, p, x⟩ (frameRow b r u p x)

theorem bitVec2_cases : ∀ v : BitVec 2, v = 0#2 ∨ v = 1#2 ∨ v = 2#2 ∨ v = 3#2 := by decide

/-- `classifyH` finds the row that the fields select. -/
theorem rowOf_classifyH (f : FormatH) : RowOf f (classifyH f) := by
  obtain ⟨s, v, l, u, b, r, p, x⟩ := f
  by_cases hs : s = 0x7FF#11
  swap
  · rw [classifyH, if_pos hs]; exact .nosync _ hs
  subst hs
  obtain rfl | rfl | rfl | rfl := bitVec2_cases v
  · exact .rejectVer0 ..
  · exact .rejectVer1 ..
  · exact .rejectVer2 ..
  obtain rfl | rfl | rfl | rfl := bitVec2_cases l
  · exact .rejectLay0 ..
  · by_cases hb0 : b = 0#4
    · subst hb0; exact .rejectBr0 ..
    by_cases hb15 : b = 15#4
    · subst hb15; exact .rejectBr15 ..
    by_cases hr : r = 3#2
    · subst hr; simpa [classifyH, hb0, hb15] using RowOf.rejectSr3 u b p x hb0 hb15
    · simpa [classifyH, frameRow, hb0, hb15, hr] using RowOf.frame u b r p x hb0 hb15 hr
  · exact .rejectLay2 ..
  · exact .rejectLay3 ..

/-- The bitrate indices of the FRAME rows (30_encoding.md R52). -/
theorem usableBitrate_cases : ∀ b : BitVec 4, b ≠ 0#4 → b ≠ 15#4 → b = 1#4 ∨ b = 2#4 ∨ b = 3#4 ∨ b = 4#4 ∨ b = 5#4 ∨ b = 6#4 ∨
    b = 7#4 ∨ b = 8#4 ∨ b = 9#4 ∨ b = 10#4 ∨ b = 11#4 ∨ b = 12#4 ∨ b = 13#4 ∨ b = 14#4 := by decide

/-- The sample-rate indices of the FRAME rows (30_encoding.md R52). -/
theorem usableRate_cases : ∀ r : BitVec 2, r ≠ 3#2 → r = 0#2 ∨ r = 1#2 ∨ r = 2#2 := by decide

/-! ### Whatever decodes, encodes back -/

theorem frameRow_encodes {b : BitVec 4} {r : BitVec 2} (u p : BitVec 1) (x : BitVec 9) (hb0 : b ≠ 0#4) (hb15 : b ≠ 15#4)
    (hr : r ≠ 3#2) : (frameRow b r u p x).wellFormed = true ∧ (frameRow b r u p x).format = .window ∧
      encode (frameRow b r u p x) = natToBytes 4 (joinH ⟨0x7FF#11, 3#2, 1#2, u, b, r, p, x⟩).toNat := by
  obtain rfl | rfl | rfl := usableRate_cases r hr <;>
    obtain rfl | rfl | rfl | rfl | rfl | rfl | rfl | rfl | rfl | rfl | rfl | rfl | rfl | rfl :=
      usableBitrate_cases b hb0 hb15 <;>
    exact ⟨rfl, rfl, rfl⟩

/-- The instruction of a row is well formed, and its bytes are the window of the row's fields. -/
theorem RowOf.encodes {f : FormatH} {i : Instr} (h : RowOf f i) :
    i.wellFormed = true ∧ i.format = .window ∧ encode i = natToBytes 4 (joinH f).toNat := by
  cases h with
  | nosync _ hs => exact ⟨bne_iff_ne.mpr hs, rfl, rfl⟩
  | rejectVer0 | rejectVer1 | rejectVer2 | rejectLay0 | rejectLay2 | rejectLay3 | rejectBr0 | rejectBr15 => exact ⟨rfl, rfl, rfl⟩
  | rejectSr3 _ b _ _ hb0 hb15 => exact ⟨by simp [Instr.wellFormed, hb0, hb15], rfl, rfl⟩
  | frame u _ _ p x hb0 hb15 hr => exact frameRow_encodes u p x hb0 hb15 hr

theorem decodeWindow_encodes (w : Window) : (decodeWindow w).wellFormed = true ∧ (decodeWindow w).format = .window ∧
    encode (decodeWindow w) = natToBytes 4 w.toNat := by
  simpa only [joinH_splitH, decodeWindow] using (rowOf_classifyH (splitH w)).encodes

theorem decodeTag_encodes (t : TagHeader) : (decodeTag (some t)).wellFormed = true ∧ (decodeTag (some t)).format = .tagHeader ∧
    encode (decodeTag (some t)) = natToBytes 10 t.toNat := by
  by_cases hm : (splitT t).marker = 0x494433#24
  · rw [decodeTag, if_pos hm]
    refine ⟨rfl, rfl, ?_⟩
    rw [encode, ← hm, joinT_splitT]
  · rw [decodeTag, if_neg hm]
    exact ⟨bne_iff_ne.mpr hm, rfl, rfl⟩

/-- A word read from as many bytes as it has is written to the same bytes. -/
theorem natToBytes_ofNat_beNat {n k : Nat} {bs : List Byte} (hlen : bs.length = n) (hk : 2 ^ k = 256 ^ n) :
    natToBytes n (BitVec.ofNat k (beNat bs)).toNat = bs := by
  subst hlen
  rw [BitVec.toNat_ofNat, hk, Nat.mod_eq_of_lt (beNat_lt bs), natToBytes_beNat]

/-- The byte lists that decode, and what they decode to. -/
theorem decode_eq_ok {f : Format} {bs : List Byte} {i : Instr} : decode f bs = .ok i ↔
    (f = .window ∧ bs.length = 4 ∧ decodeWindow (BitVec.ofNat 32 (beNat bs)) = i) ∨
    (f = .tagHeader ∧ bs.length = 10 ∧ decodeTag (some (BitVec.ofNat 80 (beNat bs))) = i) ∨
    (f = .tagHeader ∧ bs.length = 0 ∧ decodeTag none = i) ∨
    (f = .noBytes ∧ bs.length = 0 ∧ .endScan = i) := by
  cases f with
  | window => simp [decode, ite_eq_iff]
  | tagHeader => by_cases h : bs.length = 10 <;> simp [decode, ite_eq_iff, h]
  | noBytes => simp [decode, ite_eq_iff]

/-- Settles O2: the decoded word encodes back to its number, and the number to its bytes. -/
theorem everyDecodedByteListIsItsEncoding : Obligations.EveryDecodedByteListIsItsEncoding := by
  intro f bs i h
  obtain ⟨rfl, hlen, rfl⟩ | ⟨rfl, hlen, rfl⟩ | ⟨rfl, hlen, rfl⟩ | ⟨rfl, hlen, rfl⟩ := decode_eq_ok.mp h
  · obtain ⟨hwf, hf, he⟩ := decodeWindow_encodes (BitVec.ofNat 32 (beNat bs))
    exact ⟨hwf, hf, he.trans (natToBytes_ofNat_beNat hlen (by decide))⟩
  · obtain ⟨hwf, hf, he⟩ := decodeTag_encodes (BitVec.ofNat 80 (beNat bs))
    exact ⟨hwf, hf, he.trans (natToBytes_ofNat_beNat hlen (by decide))⟩
  · exact ⟨rfl, rfl, (List.eq_nil_of_length_eq_zero hlen).symm⟩
  · exact ⟨rfl, rfl, (List.eq_nil_of_length_eq_zero hlen).symm⟩

/-- Settles O3: each format's test is one on the length, and has one error. -/
theorem decoderRejectsOnlyWrongLengths : Obligations.DecoderRejectsOnlyWrongLengths := by
  intro bs
  refine ⟨?_, ?_, ?_, ?_, ?_, ?_⟩
  · simp [decode]
  · simp [decode_eq_ok]
  · by_cases h : bs.length = 10 <;> simp [decode, h]
  · simp [decode_eq_ok, exists_or]
  · simp [decode]
  · simp [decode_eq_ok]

/-! ### The opcode table -/

/-- A window meets a match under a mask exactly where each of its fields does. -/
theorem and_eq_iff_fields (w m c : Window) : w &&& m = c ↔
    (splitH w).syncWord &&& (splitH m).syncWord = (splitH c).syncWord ∧
    (splitH w).mpegVersion &&& (splitH m).mpegVersion = (splitH c).mpegVersion ∧
    (splitH w).layer &&& (splitH m).layer = (splitH c).layer ∧ (splitH w).bit16 &&& (splitH m).bit16 = (splitH c).bit16 ∧
    (splitH w).bitrateIndex &&& (splitH m).bitrateIndex = (splitH c).bitrateIndex ∧
    (splitH w).sampleRateIndex &&& (splitH m).sampleRateIndex = (splitH c).sampleRateIndex ∧
    (splitH w).padding &&& (splitH m).padding = (splitH c).padding ∧ (splitH w).low &&& (splitH m).low = (splitH c).low := by
  have hinj : splitH (w &&& m) = splitH c → w &&& m = c := fun h => by rw [← joinH_splitH (w &&& m), h, joinH_splitH]
  rw [← show splitH (w &&& m) = splitH c ↔ w &&& m = c from ⟨hinj, congrArg splitH⟩]
  simp only [splitH, FormatH.mk.injEq, BitVec.extractLsb'_and]

/-- The first `k` rows see a window through the bits of their masks, so they answer for it what they answer for those bits. -/
theorem firstRow_of_mask {w v : Window} {name : String} (k : Nat) (mask : Window)
    (hmask : ∀ row ∈ windowRows.take k, mask &&& row.2.2 = row.2.2) (hv : w &&& mask = v)
    (h : ((windowRows.take k).find? fun row => v &&& row.2.2 == row.2.1).map (·.1) = some name) : firstRow w = some name := by
  have hfind : ((windowRows.take k).find? fun row => w &&& row.2.2 == row.2.1) =
      (windowRows.take k).find? fun row => v &&& row.2.2 == row.2.1 :=
    List.find?_congr fun row hrow => by rw [← hv, BitVec.and_assoc, hmask row hrow]
  obtain ⟨row, hrow, rfl⟩ := Option.map_eq_some_iff.mp h
  rw [firstRow, ← List.take_append_drop k windowRows, List.find?_append, hfind, hrow]
  rfl

/-- The sync test of 30_encoding.md R48 on the window is the one on the sync word. -/
theorem and_syncMask_iff (w : Window) : w &&& 0xFFE00000#32 = 0xFFE00000#32 ↔ (splitH w).syncWord = 0x7FF#11 := by
  have hs : (splitH w).syncWord &&& 0x7FF#11 = (splitH w).syncWord := BitVec.and_allOnes
  have hm : splitH 0xFFE00000#32 = ⟨0x7FF#11, 0#2, 0#2, 0#1, 0#4, 0#2, 0#1, 0#9⟩ := by decide
  simp [and_eq_iff_fields, hm, hs]

/-- All rows but the last ask for the sync pattern. -/
theorem firstRow_of_noSync {w : Window} (h : (splitH w).syncWord ≠ 0x7FF#11) : firstRow w = some "NOSYNC" := by
  have hrows : ∀ row ∈ windowRows.take 51, row.2.1 &&& 0xFFE00000#32 = 0xFFE00000#32 ∧
      row.2.2 &&& 0xFFE00000#32 = 0xFFE00000#32 := by decide
  have hnone : ((windowRows.take 51).find? fun row => w &&& row.2.2 == row.2.1) = none := by
    refine List.find?_eq_none.mpr fun row hrow hw => h ((and_syncMask_iff w).mp ?_)
    obtain ⟨hmatch, hmask⟩ := hrows row hrow
    calc w &&& 0xFFE00000#32 = w &&& row.2.2 &&& 0xFFE00000#32 := by rw [BitVec.and_assoc, hmask]
      _ = 0xFFE00000#32 := by rw [beq_iff_eq.mp hw, hmatch]
  rw [firstRow, ← List.take_append_drop 51 windowRows, List.find?_append, hnone]
  simp [windowRows, rejectRows, frameRows44100, frameRows48000, frameRows32000]

/-- The rows up to REJECT.VER see the sync word and the version. -/
theorem firstRow_of_version {v : BitVec 2} (l u b r p x) {name : String} (h : ((windowRows.take 3).find? fun row =>
      joinH ⟨0x7FF#11, v, 0#2, 0#1, 0#4, 0#2, 0#1, 0#9⟩ &&& row.2.2 == row.2.1).map (·.1) = some name) :
    firstRow (joinH ⟨0x7FF#11, v, l, u, b, r, p, x⟩) = some name := by
  have hm : splitH 0xFFF80000#32 = ⟨0x7FF#11, 3#2, 0#2, 0#1, 0#4, 0#2, 0#1, 0#9⟩ := by decide
  have hv : v &&& 3#2 = v := BitVec.and_allOnes
  exact firstRow_of_mask 3 0xFFF80000#32 (by decide) (by simp [and_eq_iff_fields, splitH_joinH, hm, hv]) h

/-- The rows up to REJECT.LAY see the layer as well. -/
theorem firstRow_of_layer {l : BitVec 2} (u b r p x) {name : String} (h : ((windowRows.take 6).find? fun row =>
      joinH ⟨0x7FF#11, 3#2, l, 0#1, 0#4, 0#2, 0#1, 0#9⟩ &&& row.2.2 == row.2.1).map (·.1) = some name) :
    firstRow (joinH ⟨0x7FF#11, 3#2, l, u, b, r, p, x⟩) = some name := by
  have hm : splitH 0xFFFE0000#32 = ⟨0x7FF#11, 3#2, 3#2, 0#1, 0#4, 0#2, 0#1, 0#9⟩ := by decide
  have hl : l &&& 3#2 = l := BitVec.and_allOnes
  exact firstRow_of_mask 6 0xFFFE0000#32 (by decide) (by simp [and_eq_iff_fields, splitH_joinH, hm, hl]) h

/-- The rows up to REJECT.BR see the bitrate index as well. -/
theorem firstRow_of_bitrate {b : BitVec 4} (u r p x) {name : String} (h : ((windowRows.take 8).find? fun row =>
      joinH ⟨0x7FF#11, 3#2, 1#2, 0#1, b, 0#2, 0#1, 0#9⟩ &&& row.2.2 == row.2.1).map (·.1) = some name) :
    firstRow (joinH ⟨0x7FF#11, 3#2, 1#2, u, b, r, p, x⟩) = some name := by
  have hm : splitH 0xFFFEF000#32 = ⟨0x7FF#11, 3#2, 3#2, 0#1, 15#4, 0#2, 0#1, 0#9⟩ := by decide
  have hb : b &&& 15#4 = b := BitVec.and_allOnes
  exact firstRow_of_mask 8 0xFFFEF000#32 (by decide) (by simp [and_eq_iff_fields, splitH_joinH, hm, hb]) h

/-- The rows up to the last FRAME row see both indices; REJECT.SR.3, with a bitrate index left open, is one of them. -/
theorem firstRow_of_indices {b : BitVec 4} {r : BitVec 2} (u p x) {name : String} (h : ((windowRows.take 51).find? fun row =>
      joinH ⟨0x7FF#11, 3#2, 1#2, 0#1, b, r, 0#1, 0#9⟩ &&& row.2.2 == row.2.1).map (·.1) = some name) :
    firstRow (joinH ⟨0x7FF#11, 3#2, 1#2, u, b, r, p, x⟩) = some name := by
  have hm : splitH 0xFFFEFC00#32 = ⟨0x7FF#11, 3#2, 3#2, 0#1, 15#4, 3#2, 0#1, 0#9⟩ := by decide
  have hb : b &&& 15#4 = b := BitVec.and_allOnes
  have hr : r &&& 3#2 = r := BitVec.and_allOnes
  exact firstRow_of_mask 51 0xFFFEFC00#32 (by decide) (by simp [and_eq_iff_fields, splitH_joinH, hm, hb, hr]) h

theorem firstRow_rejectSr3 {b : BitVec 4} (u p x) (hb0 : b ≠ 0#4) (hb15 : b ≠ 15#4) :
    firstRow (joinH ⟨0x7FF#11, 3#2, 1#2, u, b, 3#2, p, x⟩) = some "REJECT.SR.3" := by
  obtain rfl | rfl | rfl | rfl | rfl | rfl | rfl | rfl | rfl | rfl | rfl | rfl | rfl | rfl :=
    usableBitrate_cases b hb0 hb15 <;>
  exact firstRow_of_indices u p x rfl

theorem firstRow_frameRow {b : BitVec 4} {r : BitVec 2} (u p x) (hb0 : b ≠ 0#4) (hb15 : b ≠ 15#4) (hr : r ≠ 3#2) :
    firstRow (joinH ⟨0x7FF#11, 3#2, 1#2, u, b, r, p, x⟩) = some (frameRow b r u p x).mnemonic := by
  obtain rfl | rfl | rfl := usableRate_cases r hr <;>
    obtain rfl | rfl | rfl | rfl | rfl | rfl | rfl | rfl | rfl | rfl | rfl | rfl | rfl | rfl :=
      usableBitrate_cases b hb0 hb15 <;>
    exact firstRow_of_indices u p x rfl

/-- The table finds the row that the fields select. -/
theorem RowOf.firstRow_eq {f : FormatH} {i : Instr} (h : RowOf f i) : firstRow (joinH f) = some i.mnemonic := by
  cases h with
  | nosync f hs => exact firstRow_of_noSync (by rwa [splitH_joinH])
  | rejectVer0 l u b r p x => exact firstRow_of_version l u b r p x rfl
  | rejectVer1 l u b r p x => exact firstRow_of_version l u b r p x rfl
  | rejectVer2 l u b r p x => exact firstRow_of_version l u b r p x rfl
  | rejectLay0 u b r p x => exact firstRow_of_layer u b r p x rfl
  | rejectLay2 u b r p x => exact firstRow_of_layer u b r p x rfl
  | rejectLay3 u b r p x => exact firstRow_of_layer u b r p x rfl
  | rejectBr0 u r p x => exact firstRow_of_bitrate u r p x rfl
  | rejectBr15 u r p x => exact firstRow_of_bitrate u r p x rfl
  | rejectSr3 u _ p x hb0 hb15 => exact firstRow_rejectSr3 u p x hb0 hb15
  | frame u _ _ p x hb0 hb15 hr => exact firstRow_frameRow u p x hb0 hb15 hr

/-- The match and mask of LAUNCH.TAG are the marker test (30_encoding.md R54). -/
theorem and_markerMask_iff (t : TagHeader) :
    t &&& 0xFFFFFF00000000000000#80 = 0x49443300000000000000#80 ↔ (splitT t).marker = 0x494433#24 := by
  have hm : (splitT t).marker &&& 0xFFFFFF#24 = (splitT t).marker := BitVec.and_allOnes
  have hinj {a b : TagHeader} (h : splitT a = splitT b) : a = b := by rw [← joinT_splitT a, h, joinT_splitT]
  rw [← show splitT (t &&& 0xFFFFFF00000000000000#80) = splitT 0x49443300000000000000#80 ↔ _ from ⟨hinj, congrArg splitT⟩, ← hm]
  simp [splitT, BitVec.extractLsb'_and]

/-- Settles O4: windows by their rows, tag headers by the marker. -/
theorem decodedRowIsFirstMatchOfTable : Obligations.DecodedRowIsFirstMatchOfTable := by
  refine ⟨fun w => ?_, fun t => ?_⟩
  · rw [decodeWindow, ← (rowOf_classifyH (splitH w)).firstRow_eq, joinH_splitH]
  · rw [decodeTag, apply_ite Instr.mnemonic]
    exact (if_congr (and_markerMask_iff t) rfl rfl).symm

/-! ### The validator -/

theorem frameRow_countsFrame {b : BitVec 4} {r : BitVec 2} (u p : BitVec 1) (x : BitVec 9) (hb0 : b ≠ 0#4) (hb15 : b ≠ 15#4)
    (hr : r ≠ 3#2) : rejectReason (frameRow b r u p x) = none ∧ countsFrame (frameRow b r u p x) = true := by
  obtain rfl | rfl | rfl := usableRate_cases r hr <;>
    obtain rfl | rfl | rfl | rfl | rfl | rfl | rfl | rfl | rfl | rfl | rfl | rfl | rfl | rfl :=
      usableBitrate_cases b hb0 hb15 <;>
    exact ⟨rfl, rfl⟩

/-- At a sync candidate the row is a REJECT row of the validator's reason, or a FRAME row of a header it accepts. -/
theorem RowOf.verdict {w : Window} {f : FormatH} {i : Instr} (h : RowOf f i) (hf : f = splitH w) (hsync : f.syncWord = 0x7FF#11) :
    (∃ r, validate w = .reject r ∧ rejectReason i = some r ∧ countsFrame i = false) ∨
    (∃ n, validate w = .accept n ∧ rejectReason i = none ∧ countsFrame i = true) := by
  have hv := validate_cases w f hf
  cases h with
  | nosync _ hs => exact absurd hsync hs
  | rejectVer0 | rejectVer1 | rejectVer2 => exact .inl ⟨.version, by simpa using hv, rfl, rfl⟩
  | rejectLay0 | rejectLay2 | rejectLay3 => exact .inl ⟨.layer, by simpa using hv, rfl, rfl⟩
  | rejectBr0 | rejectBr15 => exact .inl ⟨.bitrate, by simpa using hv, rfl, rfl⟩
  | rejectSr3 _ _ _ _ hb0 hb15 => exact .inl ⟨.sampleRate, by simpa [hb0, hb15] using hv, rfl, rfl⟩
  | frame u b r p x hb0 hb15 hr =>
    exact .inr ⟨headerFrameSize b r p, by simpa [hb0, hb15, hr] using hv, frameRow_countsFrame u p x hb0 hb15 hr⟩

/-- A window is a NOSYNC row exactly where it has no sync pattern: the row is well formed. -/
theorem decodeWindow_eq_nosync (w : Window) : (splitH w).syncWord ≠ 0x7FF#11 ↔ decodeWindow w = .nosync (splitH w) := by
  refine ⟨fun h => if_pos h, fun h => ?_⟩
  obtain ⟨hwf, -, -⟩ := decodeWindow_encodes w
  rw [h] at hwf
  exact bne_iff_ne.mp hwf

/-- Settles O14, by the verdict of the window's row. -/
theorem decodedRowAgreesWithValidator : Obligations.DecodedRowAgreesWithValidator := by
  refine fun w => ⟨decodeWindow_eq_nosync w, fun hsync => ?_⟩
  obtain ⟨r, hv, hr, hc⟩ | ⟨n, hv, hr, hc⟩ := (rowOf_classifyH (splitH w)).verdict rfl hsync
  · simp [decodeWindow, hdrValid, hv, hr, hc]
  · simp [decodeWindow, hdrValid, hv, hr, hc]

/-! ### The bytes of a window -/

theorem syncDet_iff (b0 b1 : Byte) : syncDet b0 b1 = true ↔ b0 = 0xFF#8 ∧ 0xE0 ≤ b1.toNat := by
  have hmask : ∀ b : Byte, b &&& 0xE0#8 = 0xE0#8 ↔ 0xE0 ≤ b.toNat := by decide
  simp [syncDet, hmask]

/-- The number of a byte of a window. -/
theorem toNat_byte (w : Window) (k : Nat) : (w.extractLsb' k 8).toNat = w.toNat / 2 ^ k % 256 := by
  rw [BitVec.extractLsb'_toNat, Nat.shiftRight_eq_div_pow]

/-- SYNCDET on the two high bytes is the test of the sync word: both say that the number of the window is at least 0xFFE00000. -/
theorem syncDet_bytes_iff (w : Window) :
    syncDet (w.extractLsb' 24 8) (w.extractLsb' 16 8) = true ↔ (splitH w).syncWord = 0x7FF#11 := by
  obtain ⟨hs, -⟩ := splitH_toNat w
  have := w.isLt
  rw [syncDet_iff, ← BitVec.toNat_inj, ← BitVec.toNat_inj, hs, toNat_byte, toNat_byte]
  simp only [BitVec.toNat_ofNat, Nat.reducePow, Nat.reduceMod]
  omega

/-- Settles O10: both tests on the window are the one on its sync word. -/
theorem syncDetIsElevenOnes : Obligations.SyncDetIsElevenOnes :=
  ⟨fun w => ⟨(syncDet_bytes_iff w).trans (and_syncMask_iff w).symm, syncDet_bytes_iff w⟩, syncDet_iff⟩

/-- Settles O16: the number of the window is the weighted sum of its bytes, so its bytes are the digits. -/
theorem windowIsBigEndian : Obligations.WindowIsBigEndian := by
  intro s b0 b1 b2 b3 h0 h1 h2 h3
  have := b0.isLt; have := b1.isLt; have := b2.isLt; have := b3.isLt
  have hw := readWindow_bytes h0 h1 h2 h3
  generalize hn : 0x1000000 * b0.toNat + 0x10000 * b1.toNat + 0x100 * b2.toNat + b3.toNat = n at hw
  have hnat : (BitVec.ofNat 32 n).toNat = n := by rw [BitVec.toNat_ofNat, Nat.mod_eq_of_lt (by omega)]
  refine ⟨_, hw, ?_, ?_, ?_, ?_, hnat⟩ <;> rw [← BitVec.toNat_inj, toNat_byte, hnat] <;> omega

end Sys2Proof.Machine

/-! PROOFS. The family of 40_tag_skip.md: the synchsafe decoder (R61), tag detection and the tag skipper on a backed buffer (R62,
R63), and the scan behind a tag that leaves no window (R64). -/

namespace Sys2Proof.Machine

/-! ### The synchsafe decoder -/

/-- The four groups of seven bits lie side by side, so joining them is adding them. -/
theorem ssafe_eq_sum (b0 b1 b2 b3 : Byte) : ssafe b0 b1 b2 b3 =
    2097152 * (b0.toNat % 128) + 16384 * (b1.toNat % 128) + 128 * (b2.toNat % 128) + b3.toNat % 128 := by
  have hlow (b : Byte) : b.toNat &&& 0x7F = b.toNat % 128 := Nat.and_two_pow_sub_one_eq_mod _ 7
  have join {i lo : Nat} (hi : Nat) (h : lo < 2 ^ i) : hi <<< i ||| lo = 2 ^ i * hi + lo := by
    rw [← Nat.shiftLeft_add_eq_or_of_lt h, Nat.shiftLeft_eq, Nat.mul_comm]
  simp only [ssafe, hlow, Nat.or_assoc]
  rw [join (i := 7) _ (by omega), join (i := 14) _ (by omega), join (i := 21) _ (by omega)]
  omega

theorem toNat_setBit7_mod (b : Byte) : (b ||| 0x80#8).toNat % 128 = b.toNat % 128 := by
  rw [BitVec.toNat_or]
  exact (Nat.or_mod_two_pow (n := 7)).trans (Nat.or_zero _)

theorem toNat_ofNat_sevenBits (n : Nat) : (BitVec.ofNat 8 (n % 128)).toNat = n % 128 := by
  rw [BitVec.toNat_ofNat]
  omega

/-- The digits of a 28-bit number to the base 128 are synchsafe bytes of it. -/
theorem ssafe_sevenBitDigits {v : Nat} (h : v ≤ 268435455) : ssafe (BitVec.ofNat 8 (v / 2097152 % 128))
    (BitVec.ofNat 8 (v / 16384 % 128)) (BitVec.ofNat 8 (v / 128 % 128)) (BitVec.ofNat 8 (v % 128)) = v := by
  simp only [ssafe_eq_sum, toNat_ofNat_sevenBits]
  omega

/-- Settles O8: the sum of the groups sees no bit 7, and every 28-bit number is the sum of its digits to the base 128. -/
theorem ssafeConcatenatesSevenBitGroups : Obligations.SsafeConcatenatesSevenBitGroups := by
  refine ⟨fun b0 b1 b2 b3 => ⟨ssafe_eq_sum b0 b1 b2 b3, Nat.le_of_lt_succ (ssafe_le b0 b1 b2 b3), ?_⟩, fun v hv => ?_⟩
  · simp only [ssafe_eq_sum, toNat_setBit7_mod]
  · have hclear (n : Nat) : (BitVec.ofNat 8 (n % 128)).toNat < 128 := by
      rw [toNat_ofNat_sevenBits]
      exact Nat.mod_lt _ (by decide)
    exact ⟨_, _, _, _, hclear _, hclear _, hclear _, hclear _, ssafe_sevenBitDigits hv⟩

/-! ### The tag skipper -/

theorem tagSkip_of_tagPresent {m : Memory} {len off : Nat} (hx : len ≤ m.extent) (ht : tagPresent m len off = true) :
    tagSkip m len off =
      off + (ssafe (bytesOf m (off + 6)) (bytesOf m (off + 7)) (bytesOf m (off + 8)) (bytesOf m (off + 9)) + 10) := by
  obtain ⟨h10, -⟩ := (tagPresent_iff hx).mp ht
  have hbyte (k : Nat) (hk : k < 10) : bufByte m len (off + k) = some (bytesOf m (off + k)) := bufByte_of_extent hx (by omega)
  rw [tagSkip, if_pos ht, hbyte 6 (by decide), hbyte 7 (by decide), hbyte 8 (by decide), hbyte 9 (by decide)]

theorem tagSkip_of_not_tagPresent {m : Memory} {len off : Nat} (ht : tagPresent m len off = false) : tagSkip m len off = off := by
  rw [tagSkip, ht, if_neg Bool.false_ne_true]

/-- Settles O9: a present tag has its size bytes behind the port too. -/
theorem tagSkipOfBackedBuffer : Obligations.TagSkipOfBackedBuffer :=
  fun _ _ _ hx => ⟨tagPresent_iff hx, tagSkip_of_tagPresent hx, tagSkip_of_not_tagPresent⟩

/-! ### A tag that leaves no window -/

theorem initialCursor_of_tagPresent {m : Memory} {len : Nat} (hx : len ≤ m.extent) (ht : tagPresent m len 0 = true) :
    initialCursor (bytesOf m) len = ssafe (bytesOf m 6) (bytesOf m 7) (bytesOf m 8) (bytesOf m 9) + 10 := by
  obtain ⟨h10, hmarker⟩ := (tagPresent_iff hx).mp ht
  exact if_pos ⟨by omega, hmarker⟩

/-- A dutiful launch starts the scan at the initial cursor (44_driving_loop.md R95). -/
theorem step_launch_of_duty {s : State} (hh : s.host = []) (hr : s.rst = false) (hd : s.st = .done) (hs : s.start = true)
    (h : LaunchDuty s) : step s = .next (s.startScan (initialCursor (bytesOf s.buf) s.lenIn)) := by
  rw [step_nil hh, blockStep_launch hr hd hs, exec_decodeTag_of_duty h, launch_of_duty h]

/-- Without `start` the state that END leaves holds (44_driving_loop.md R96, R106). -/
theorem run_end_of_no_start {s : State} (hh : s.host = []) (hr : s.rst = false) (hc : s.st = .scanning) (hs : s.start = false)
    (he : s.len < s.cur + 4) (m : Nat) : Sys2Proof.core.run (m + 1) s = .next s.finish := by
  have hend : step s = .next s.finish := (step_nil hh).trans (blockStep_end hr hc he)
  have hidle : step s.finish = .next s.finish := (step_nil (s := s.finish) hh).trans (blockStep_idle hr rfl hs)
  rw [run_next hend, run_still hidle]

/-- Settles O46: the cursor starts behind the tag, where no window fits, and the step of LAUNCH is followed by END. -/
theorem oversizedTagGivesZero : Obligations.OversizedTagGivesZero := by
  rintro s size hh hr hd hs hduty ht rfl hover
  have hcur := (initialCursor_of_tagPresent hduty.2 ht).trans (Nat.add_comm _ 10)
  have hlaunch := step_launch_of_duty hh hr hd hs hduty
  rw [hcur] at hlaunch
  refine ⟨_, hlaunch, rfl, rfl, fun l m => ?_⟩
  exact run_end_of_no_start (s := { s.startScan _ with start := false, lenIn := l }) hh hr rfl rfl hover m

end Sys2Proof.Machine

/-! PROOFS. The family of 41_sync_detect.md: a buffer without a sync candidate (R73). -/

namespace Sys2Proof.Machine

/-- The detector answers no at every window that fits into a buffer without a candidate (41_sync_detect.md R70, R73). -/
theorem NoCandidate.syncDet_eq_false {byte : Nat → Byte} {len : Nat} (h : NoCandidate byte len) {c : Nat} (hc : c + 1 < len) :
    syncDet (byte c) (byte (c + 1)) = false := by
  simpa [syncDet] using h c hc

/-- Without a candidate the loop only advances by 1 until it ends, wherever it starts: the count stays. -/
theorem NoCandidate.countLoop_eq {byte : Nat → Byte} {len : Nat} (h : NoCandidate byte len) (fuel : Nat) :
    ∀ cur cnt, countLoop byte len fuel cur cnt = cnt := by
  induction fuel with
  | zero => exact fun _ _ => rfl
  | succ fuel ih =>
    intro cur cnt
    by_cases hend : len < cur + 4
    · rw [countLoop, if_pos hend]
    · have hsync : syncDet (byte cur) (byte (cur + 1)) = false := h.syncDet_eq_false (by omega)
      rw [countLoop, if_neg hend, hsync, if_neg Bool.false_ne_true, ih]

/-- Settles O43: the loop keeps the count 0 from whatever cursor the tag skipper gives. -/
theorem noSyncMeansZero : Obligations.NoSyncMeansZero :=
  fun byte len h => h.countLoop_eq (len + 1) (initialCursor byte len) 0

end Sys2Proof.Machine

/-! PROOFS. The family of 42_header_decode.md: the bits of a window that no rule reads (R80), the sample words (R83), and the two
lookup tables with the frame sizes they give (R78, R79, R91). -/

namespace Sys2Proof.Machine

/-! ### The bits no rule reads -/

/-- The mask that leaves out the bits of R80 clears the fields `bit16` and `low` and keeps the other six. -/
theorem splitH_and_readMask (w : Window) : splitH (w &&& 0xFFFEFE00#32) = { splitH w with bit16 := 0#1, low := 0#9 } := by
  have hm : splitH 0xFFFEFE00#32 = ⟨.allOnes 11, .allOnes 2, .allOnes 2, 0#1, .allOnes 4, .allOnes 2, .allOnes 1, 0#9⟩ := by decide
  have hw : w &&& 0xFFFEFE00#32 = joinH { splitH w with bit16 := 0#1, low := 0#9 } :=
    (and_eq_iff_fields ..).mpr (by simp only [hm, splitH_joinH, BitVec.and_allOnes, BitVec.and_zero, and_self])
  rw [hw, splitH_joinH]

/-- The validator looks at none of the two cleared fields. -/
theorem validate_and_readMask (w : Window) : validate (w &&& 0xFFFEFE00#32) = validate w := by
  simp only [validate, splitH_and_readMask]

/-- Whether a row counts, and how far it moves the cursor, depends on none of the two cleared fields. -/
theorem exec_decodeWindow_and_readMask (w : Window) (s : State) :
    exec (decodeWindow (w &&& 0xFFFEFE00#32)) s = exec (decodeWindow w) s := by
  simp only [exec_decodeWindow, FrameFields, splitH_and_readMask]

/-- Settles O15: two windows that agree under the mask have the verdict and the effect of one and the same masked window. -/
theorem ignoredHeaderBitsChangeNothing : Obligations.IgnoredHeaderBitsChangeNothing := by
  intro w w' s h
  constructor
  · rw [← validate_and_readMask w, h, validate_and_readMask]
  · rw [← exec_decodeWindow_and_readMask w, h, exec_decodeWindow_and_readMask]

/-! ### The sample words -/

/-- Bytes that a well-formed instruction is written to decode to it in its format: the round trip, with the bytes given. -/
theorem decode_of_encode_eq {f : Format} {bs : List Byte} {i : Instr} (hwf : i.wellFormed = true) (hf : i.format = f)
    (hbs : encode i = bs) : decode f bs = .ok i :=
  hf ▸ hbs ▸ decodeEncodeRoundTrip i hwf

/-- Settles O5: each sample word is what its row encodes to. -/
theorem writtenOutWordsDecode : Obligations.WrittenOutWordsDecode := by
  refine ⟨?_, ?_, ?_, ?_, ?_, ?_, ?_, ?_, ?_⟩ <;> exact decode_of_encode_eq rfl rfl rfl

/-! ### The tables and the frame sizes -/

/-- The padding byte is added behind the division (43_header_validate_framesize.md R90). -/
theorem headerFrameSize_padded (b : BitVec 4) (r : BitVec 2) : headerFrameSize b r 1#1 = headerFrameSize b r 0#1 + 1 := rfl

/-- Settles O11: the tables and their remainders entry by entry, the padding byte for every pair of indices. -/
theorem lookupTablesAndFrameSizes : Obligations.LookupTablesAndFrameSizes :=
  ⟨by decide, by decide, by decide, by decide, by decide, by decide, fun b r _ _ _ => headerFrameSize_padded b r⟩

end Sys2Proof.Machine

/-! PROOFS. The family of 43_header_validate_framesize.md: the verdict of the validator (R85 to R90) and its size check, which no
header fails (R92). -/

namespace Sys2Proof.Machine

/-! ### The verdict -/

/-- Settles O12: the fields of the window lead to one of the five answers of `validate_cases`, and each clause is read off from it; for
a header with usable indices the size is in bounds, so the answer is an acceptance. -/
theorem validateVerdict : Obligations.ValidateVerdict := by
  intro w f hf n₀ hn₀
  obtain ⟨hver, hv⟩ | ⟨hver, hlay, hv⟩ | ⟨hver, hlay, hbr, hv⟩ | ⟨hver, hlay, hb0, hb15, hsr, hv⟩ | ⟨hver, hlay, hb0, hb15, hsr, hv⟩ :=
    validate_cases w f hf
  · simp [hv, hver]
  · simp [hv, hver, hlay]
  · obtain hbr | hbr := hbr <;> simp [hv, hver, hlay, hbr]
  · simp [hv, hver, hlay, hb0, hb15, hsr]
  · obtain ⟨hmin, hmax⟩ := headerFrameSize_bounds _ _ f.padding hb0 hb15 hsr
    have hsize : headerFrameSize f.bitrateIndex f.sampleRateIndex f.padding = n₀ := hn₀.symm
    rw [hsize] at hv hmin hmax
    have hbound : 0 < n₀ ∧ n₀ < 2881 := by omega
    simp [hv, hver, hlay, hb0, hb15, hsr, hbound, eq_comm]

/-! ### The size check -/

/-- RSVCHK on the indices themselves (43_header_validate_framesize.md R86). -/
theorem indicesOk_iff (f : FormatH) :
    indicesOk f = true ↔ f.bitrateIndex ≠ 0#4 ∧ f.bitrateIndex ≠ 15#4 ∧ f.sampleRateIndex ≠ 3#2 := by
  simp [indicesOk, bitrateKbps_eq_zero, sampleRateHz_eq_zero, and_assoc]

theorem validate_ne_reject_size (w : Window) : validate w ≠ .reject .size := by
  obtain ⟨-, hv⟩ | ⟨-, -, hv⟩ | ⟨-, -, -, hv⟩ | ⟨-, -, -, -, -, hv⟩ | ⟨-, -, -, -, -, hv⟩ := validate_cases w _ rfl <;>
    simp [hv]

/-- Settles O13: RSVCHK alone gives usable indices, whose sizes are those of the table of R91; its two extremes are evaluated. -/
theorem sizeBoundIsVacuous : Obligations.SizeBoundIsVacuous := by
  refine ⟨fun w _ hidx => ?_, validate_ne_reject_size, by decide, by decide⟩
  obtain ⟨hb0, hb15, hsr⟩ := (indicesOk_iff _).mp hidx
  exact headerFrameSize_bounds _ _ _ hb0 hb15 hsr

end Sys2Proof.Machine

/-! PROOFS. The family of 44_driving_loop.md: the effect of every row and of the step that runs it (R95 to R99, R106), the dispatch
(R100), what a placed word runs, and the run of a whole scan from LAUNCH to END with its count (R101 to R107). -/

namespace Sys2Proof.Machine

/-! ### The effect of a window's row, by sync word and verdict -/

/-- A row of a window without a sync pattern steps over one byte (44_driving_loop.md R97). -/
theorem exec_decodeWindow_of_noSync {w : Window} (hsync : (splitH w).syncWord ≠ 0x7FF#11) (s : State) :
    exec (decodeWindow w) s = .next (s.advance 1) :=
  exec_classifyH_other (fun ⟨h, _⟩ => hsync h) s

/-- The accepted headers, by their fields, with their frame size. -/
theorem validate_eq_accept {w : Window} {n : Nat} (hv : validate w = .accept n) :
    (splitH w).mpegVersion = 3#2 ∧ (splitH w).layer = 1#2 ∧ (splitH w).bitrateIndex ≠ 0#4 ∧ (splitH w).bitrateIndex ≠ 15#4 ∧
      (splitH w).sampleRateIndex ≠ 3#2 ∧
      n = headerFrameSize (splitH w).bitrateIndex (splitH w).sampleRateIndex (splitH w).padding := by
  obtain ⟨-, -, -, -, -, haccept⟩ := validateVerdict w _ rfl _ rfl
  obtain ⟨hver, hlay, hb0, hb15, hsr, -, hn⟩ := (haccept n).mp hv
  exact ⟨hver, hlay, hb0, hb15, hsr, hn⟩

/-- Accepted sizes (43_header_validate_framesize.md R92). -/
theorem validate_accept_bounds {w : Window} {n : Nat} (hv : validate w = .accept n) : 96 ≤ n ∧ n ≤ 1441 := by
  obtain ⟨-, -, hb0, hb15, hsr, rfl⟩ := validate_eq_accept hv
  exact headerFrameSize_bounds _ _ _ hb0 hb15 hsr

/-- The row of an accepted sync candidate counts it (44_driving_loop.md R99). -/
theorem exec_decodeWindow_of_accept {w : Window} {n : Nat} (hsync : (splitH w).syncWord = 0x7FF#11) (hv : validate w = .accept n)
    (s : State) : exec (decodeWindow w) s = .next (s.countFrame n) := by
  obtain ⟨hver, hlay, hb0, hb15, hsr, rfl⟩ := validate_eq_accept hv
  exact exec_classifyH_frame ⟨hsync, hver, hlay, hb0, hb15, hsr⟩ s

/-- The row of a rejected window steps over one byte (44_driving_loop.md R98): a FRAME row's fields would be accepted. -/
theorem exec_decodeWindow_of_reject {w : Window} {r : RejectReason} (hv : validate w = .reject r) (s : State) :
    exec (decodeWindow w) s = .next (s.advance 1) := by
  refine exec_classifyH_other (fun ⟨_, hver, hlay, hb0, hb15, hsr⟩ => ?_) s
  have hcases := validate_cases w _ rfl
  simp [hver, hlay, hb0, hb15, hsr, hv] at hcases

/-! ### The step at a window (44_driving_loop.md R97 to R99) -/

section WindowStep

variable {s : State} {w : Window} (hr : s.rst = false) (hc : s.st = .scanning) (hfit : s.cur + 4 ≤ s.len)
  (hw : readWindow s = some w)
include hr hc hfit hw

theorem blockStep_of_noSync (hsync : syncHit s = false) : blockStep s = .next (s.advance 1) := by
  have hword : (splitH w).syncWord ≠ 0x7FF#11 := fun h => Bool.false_ne_true (hsync.symm.trans ((syncHit_iff hw).mpr h))
  rw [blockStep_window hr hc hfit hw, exec_decodeWindow_of_noSync hword]

theorem blockStep_of_reject {r : RejectReason} (hv : validate w = .reject r) : blockStep s = .next (s.advance 1) := by
  rw [blockStep_window hr hc hfit hw, exec_decodeWindow_of_reject hv]

theorem blockStep_of_accept {n : Nat} (hsync : syncHit s = true) (hv : validate w = .accept n) :
    blockStep s = .next (s.countFrame n) := by
  rw [blockStep_window hr hc hfit hw, exec_decodeWindow_of_accept ((syncHit_iff hw).mp hsync) hv]

end WindowStep

/-! ### The rows of a scan, each with its step -/

theorem step_idle {s : State} (hh : s.host = []) (hr : s.rst = false) (hd : s.st = .done) (hs : s.start = false) : step s = .next s :=
  (step_nil hh).trans (blockStep_idle hr hd hs)

/-- Settles O31: nothing is enabled. -/
theorem doneHolds : Obligations.DoneHolds := by
  intro s hh hr hd hs
  exact ⟨step_idle hh hr hd hs, by rw [State.doneOut, hd]; rfl, rfl⟩

/-- Settles O22: the end test comes before the read, so BUF plays no part. -/
theorem endCompletes : Obligations.EndCompletes :=
  ⟨fun _ => rfl, fun _ hh hr hc he => (step_nil hh).trans (blockStep_end hr hc he)⟩

/-- Settles O23: without `sync_hit` the window's sync word is not all ones, and its row is NOSYNC. -/
theorem nosyncCompletes : Obligations.NosyncCompletes :=
  ⟨fun _ _ => rfl, fun _ _ hh hr hc hfit hw hsync => (step_nil hh).trans (blockStep_of_noSync hr hc hfit hw hsync)⟩

/-- Settles O24: each of the nine rows is `stepOver`, and the step is that of the rejected window. -/
theorem rejectRowsComplete : Obligations.RejectRowsComplete :=
  ⟨fun _ _ _ _ _ _ _ => ⟨rfl, rfl, rfl, rfl, rfl, rfl, rfl, rfl, rfl⟩,
    fun _ _ _ hh hr hc hfit hw _ hv => (step_nil hh).trans (blockStep_of_reject hr hc hfit hw hv)⟩

/-- Settles O25: each row accepts a header of its own usable indices, whose frame size is the table's entry and the padding. -/
theorem frameRowsComplete : Obligations.FrameRowsComplete := by
  intro u p x s
  and_intros <;>
    · rw [exec]
      exact acceptHeader_usable p s (by decide) (by decide) (by decide)

/-- Settles O26: SYNCDET and VALIDATE together give a FRAME row's fields, and so its frame size. -/
theorem frameStepCompletes : Obligations.FrameStepCompletes := by
  intro s w n hh hr hc hfit hw hsync hv
  exact ⟨(step_nil hh).trans (blockStep_of_accept hr hc hfit hw hsync hv), validate_accept_bounds hv⟩

/-! ### LAUNCH and the dispatch by predicates -/

/-- Settles O19: both rows are a dutiful launch, the tag's size being the sum of its seven-bit groups. -/
theorem launchRowsComplete : Obligations.LaunchRowsComplete := by
  intro s h
  refine ⟨fun version flags b0 b1 b2 b3 => ?_, fun header => launch_of_duty h 0⟩
  rw [← ssafe_eq_sum, Nat.add_comm]
  exact launch_of_duty h (ssafe b0 b1 b2 b3 + 10)

/-- On a backed buffer the tag skipper gives the initial cursor of R101 (40_tag_skip.md R63). -/
theorem tagSkip_eq_initialCursor {m : Memory} {len : Nat} (hx : len ≤ m.extent) :
    tagSkip m len 0 = initialCursor (bytesOf m) len := by
  cases ht : tagPresent m len 0 with
  | true => rw [tagSkip_of_tagPresent hx ht, initialCursor_of_tagPresent hx ht, Nat.zero_add]
  | false =>
    have hno := mt (tagPresent_iff hx).mpr (ht ▸ Bool.false_ne_true)
    rw [tagSkip_of_not_tagPresent ht, initialCursor, if_neg hno]

/-- Settles O20: the launch latches `len` and computes the cursor from it, so nothing is left of the old registers. -/
theorem launchStepSkipsTheTag : Obligations.LaunchStepSkipsTheTag := by
  intro s hh hr hd hs h
  have hcur := tagSkip_eq_initialCursor h.2
  have hstep := step_launch_of_duty hh hr hd hs h
  refine ⟨by rw [hcur]; exact hstep, hcur, fun len cur cnt => ?_⟩
  rw [hstep]
  exact step_launch_of_duty (s := { s with len := len, cur := cur, cnt := cnt }) hh hr hd hs h

/-- The launched row and the tag skipper set the same cursor, and without the duty no cursor is set. -/
theorem exec_decodeTag_eq_launch (s : State) : exec (decodeTag (readTagHeader s)) s = launch (tagSkip s.buf s.lenIn 0) s := by
  by_cases h : LaunchDuty s
  · rw [exec_decodeTag_of_duty h, tagSkip_eq_initialCursor h.2]
  · obtain ⟨n, -, e⟩ := exec_decodeTag s (readTagHeader s)
    rw [e, launch_cursor h]

/-- Settles O27, along the branches of R100. -/
theorem blockStepIsThePredicateDispatch : Obligations.BlockStepIsThePredicateDispatch := by
  intro s
  cases hr : s.rst with
  | true => simp [blockStepByPredicates, blockStep_rst hr, hr]
  | false =>
    cases hd : s.st with
    | done =>
      cases hs : s.start with
      | false => simp [blockStepByPredicates, blockStep_idle hr hd hs, hr, hd, hs]
      | true => simp [blockStepByPredicates, blockStep_launch hr hd hs, exec_decodeTag_eq_launch, hr, hd, hs]
    | scanning =>
      rcases Nat.lt_or_ge s.len (s.cur + 4) with he | hfit
      · simp [blockStepByPredicates, blockStep_end hr hd he, hr, hd, atEnd_iff.mpr he]
      · have hend := not_atEnd hfit
        cases hw : readWindow s with
        | none => simp [blockStepByPredicates, blockStep_unanswered hr hd hfit hw, hr, hd, hend, hw]
        | some w =>
          cases hsync : syncHit s with
          | false => simp [blockStepByPredicates, blockStep_of_noSync hr hd hfit hw hsync, hr, hd, hend, hw, hsync]
          | true =>
            cases hv : validate w with
            | accept n => simp [blockStepByPredicates, blockStep_of_accept hr hd hfit hw hsync hv, hr, hd, hend, hw, hsync, hv]
            | reject r => simp [blockStepByPredicates, blockStep_of_reject hr hd hfit hw hv, hr, hd, hend, hw, hsync, hv]

/-! ### The inputs while Scanning -/

/-- The host's two inputs that only LAUNCH reads, `start` and `len`. -/
def State.setLaunchInputs (start : Bool) (len : Nat) (s : State) : State := { s with start := start, lenIn := len }

/-- No row of a window looks at an input. -/
theorem exec_decodeWindow_setLaunchInputs (w : Window) (s : State) (b : Bool) (l : Nat) :
    exec (decodeWindow w) (s.setLaunchInputs b l) = onNext (State.setLaunchInputs b l) (exec (decodeWindow w) s) := by
  rw [exec_decodeWindow, exec_decodeWindow]
  split <;> rfl

theorem blockStep_setLaunchInputs_of_scanning {s : State} (hc : s.st = .scanning) (b : Bool) (l : Nat) :
    blockStep (s.setLaunchInputs b l) = onNext (State.setLaunchInputs b l) (blockStep s) := by
  cases hr : s.rst with
  | true => rw [blockStep_rst hr, blockStep_rst (s := s.setLaunchInputs b l) hr]; rfl
  | false =>
    rcases Nat.lt_or_ge s.len (s.cur + 4) with he | hfit
    · rw [blockStep_end hr hc he, blockStep_end (s := s.setLaunchInputs b l) hr hc he]; rfl
    · cases hw : readWindow s with
      | none =>
        rw [blockStep_unanswered hr hc hfit hw, blockStep_unanswered (s := s.setLaunchInputs b l) hr hc hfit hw]; rfl
      | some w =>
        rw [blockStep_window hr hc hfit hw, blockStep_window (s := s.setLaunchInputs b l) hr hc hfit hw,
          exec_decodeWindow_setLaunchInputs]

/-- Settles O32: END, the window's row and reset look at neither input. -/
theorem inputsIgnoredWhileScanning : Obligations.InputsIgnoredWhileScanning := by
  intro s b l hh hc
  rw [step_nil hh]
  exact (step_nil (s := s.setLaunchInputs b l) hh).trans (blockStep_setLaunchInputs_of_scanning hc b l)

/-! ### The step runs what it fetches (44_driving_loop.md R100) -/

/-- A step at a window that fits runs the instruction its four bytes decode to. -/
theorem blockStep_of_decode_window {s : State} {bs : List Byte} {i : Instr} (hr : s.rst = false) (hc : s.st = .scanning)
    (hfit : s.cur + 4 ≤ s.len) (hb : ∀ k, k < 4 → bufByte s.buf s.len (s.cur + k) = bs[k]?) (hi : decode .window bs = .ok i) :
    blockStep s = exec i s := by
  obtain ⟨-, hlen, rfl⟩ | ⟨hf, -⟩ | ⟨hf, -⟩ | ⟨hf, -⟩ := decode_eq_ok.mp hi
  · have hread := memRead_bytes (m := s.buf) (len := s.len) (a := s.cur) bs (hlen ▸ hb)
    rw [hlen] at hread
    exact blockStep_window hr hc hfit (congrArg (Option.map (BitVec.ofNat 32)) hread)
  all_goals cases hf

/-- A launch of at least ten bytes runs the instruction the first ten decode to. -/
theorem blockStep_of_decode_tagHeader {s : State} {bs : List Byte} {i : Instr} (hr : s.rst = false) (hd : s.st = .done)
    (hs : s.start = true) (h10 : 10 ≤ s.lenIn) (hlen : bs.length = 10) (hb : ∀ k, k < 10 → bufByte s.buf s.lenIn k = bs[k]?)
    (hi : decode .tagHeader bs = .ok i) : blockStep s = exec i s := by
  have hread := memRead_bytes (m := s.buf) (len := s.lenIn) (a := 0) bs fun k hk => by rw [Nat.zero_add]; exact hb k (hlen ▸ hk)
  have htag : readTagHeader s = some (BitVec.ofNat 80 (beNat bs)) := by
    rw [readTagHeader, if_pos h10, ← hlen, hread, Option.map_some]
  rw [decode, if_pos hlen, Except.ok.injEq] at hi
  rw [blockStep_launch hr hd hs, htag, hi]

/-- A launch of fewer than ten bytes runs what no byte decodes to. -/
theorem blockStep_of_decode_noTagHeader {s : State} {i : Instr} (hr : s.rst = false) (hd : s.st = .done) (hs : s.start = true)
    (hlt : s.lenIn < 10) (hi : decode .tagHeader [] = .ok i) : blockStep s = exec i s := by
  cases hi
  rw [blockStep_launch hr hd hs, readTagHeader, if_neg (Nat.not_le.mpr hlt)]

/-- Settles O6, by one lemma for each of the two turns and the four ways to fetch. -/
theorem stepRunsDecodedInstruction : Obligations.StepRunsDecodedInstruction := by
  refine fun s => ⟨fun _ => step_wait, step_nil, blockStep_end, ?_, fun _ => blockStep_of_decode_noTagHeader, fun _ _ =>
    blockStep_of_decode_tagHeader⟩
  intro b0 b1 b2 b3 i hr hc hfit h0 h1 h2 h3 hi
  refine blockStep_of_decode_window hr hc hfit (fun k hk => ?_) hi
  match k, hk with
  | 0, _ => exact h0
  | 1, _ => exact h1
  | 2, _ => exact h2
  | 3, _ => exact h3

/-! ### A placed word -/

theorem Memory.read_writeBytes_below (bs : List Byte) : ∀ (m : Memory) {a i : Nat}, i < a → (m.writeBytes a bs).read i = m.read i := by
  induction bs with
  | nil => exact fun _ _ _ _ => rfl
  | cons b bs ih =>
    intro m a i h
    rw [Memory.writeBytes, ih _ (Nat.lt_succ_of_lt h), Memory.read_write_other _ _ _ _ (Nat.ne_of_lt h)]

/-- Written bytes are read back. -/
theorem Memory.read_writeBytes (bs : List Byte) : ∀ (m : Memory) (a : Nat) {k : Nat}, k < bs.length →
    (m.writeBytes a bs).read (a + k) = bs[k]? := by
  induction bs with
  | nil => exact fun _ _ _ h => absurd h (Nat.not_lt_zero _)
  | cons b bs ih =>
    intro m a k h
    cases k with
    | zero => exact (Memory.read_writeBytes_below bs _ (Nat.lt_succ_self a)).trans (Memory.read_write_same m a b)
    | succ k =>
      rw [show a + (k + 1) = a + 1 + k by omega]
      exact ih (m.write a b) (a + 1) (Nat.lt_of_succ_lt_succ h)

/-- The next step after placing a window runs it. -/
theorem step_placeWindow {bs : List Byte} {i : Instr} (hi : decode .window bs = .ok i) (hlen : bs.length = 4) (s : State) :
    step (placeWindow bs s) = exec i (placeWindow bs s) := by
  have hfit : s.cur + 4 ≤ max s.len (s.cur + 4) := Nat.le_max_right _ _
  refine (step_nil rfl).trans (blockStep_of_decode_window rfl rfl hfit (fun k hk => ?_) hi)
  exact (bufByte_of_lt (Nat.lt_of_lt_of_le (Nat.add_lt_add_left hk _) hfit)).trans (Memory.read_writeBytes bs _ _ (hlen ▸ hk))

/-- The next step after placing a tag header launches it. -/
theorem step_placeTagHeader {bs : List Byte} {i : Instr} (hi : decode .tagHeader bs = .ok i) (hlen : bs.length = 10) (s : State) :
    step (placeTagHeader bs s) = exec i (placeTagHeader bs s) := by
  refine (step_nil rfl).trans (blockStep_of_decode_tagHeader rfl rfl rfl (Nat.le_refl 10) hlen (fun k hk => ?_) hi)
  have hread := Memory.read_writeBytes bs s.buf 0 (hlen ▸ hk : k < bs.length)
  rw [Nat.zero_add] at hread
  exact (bufByte_of_lt hk).trans hread

/-- The next step after placing the end of a scan is END. -/
theorem step_placeEnd (s : State) : step (placeEnd s) = exec .endScan (placeEnd s) := by
  have hend : min s.len s.cur < s.cur + 4 := by omega
  exact (step_nil rfl).trans (blockStep_end rfl rfl hend)

/-- How the opcode table's numbers are read (log entry 5): the format is that of the number's width. -/
theorem decodeTableWord_eq_some {nbits w : Nat} {i : Instr} (h : decodeTableWord nbits w = some i) :
    (nbits = 0 ∧ i = .endScan) ∨
    (nbits ≠ 0 ∧ (8 < nbits ∧ nbits ≤ 32) ∧ decode .window (natToBytes 4 w) = .ok i) ∨
    (nbits ≠ 0 ∧ ¬ (8 < nbits ∧ nbits ≤ 32) ∧ decode .tagHeader (natToBytes 10 w) = .ok i) := by
  simp only [decodeTableWord] at h
  split at h
  · cases h; exact .inl ⟨‹_›, rfl⟩
  · split at h
    · split at h <;> cases h
      exact .inr (.inl ⟨‹_›, ‹_›, ‹_›⟩)
    · split at h
      · split at h <;> cases h
        exact .inr (.inr ⟨‹_›, ‹_›, ‹_›⟩)
      · cases h

/-- Settles O7, by the three places a word can have. -/
theorem fetchedTableWordRuns : Obligations.FetchedTableWordRuns := by
  intro s nbits w i h
  rw [State.withFetchWord]
  obtain ⟨h0, rfl⟩ | ⟨h0, hw, hi⟩ | ⟨h0, hw, hi⟩ := decodeTableWord_eq_some h
  · rw [if_pos h0]; exact step_placeEnd s
  · rw [if_neg h0, if_pos hw]; exact step_placeWindow hi (natToBytes_length 4 w) s
  · rw [if_neg h0, if_neg hw]; exact step_placeTagHeader hi (natToBytes_length 10 w) s

/-! ### The loop of the reference function (44_driving_loop.md R101) -/

section CountLoop

variable {byte : Nat → Byte} {len cur : Nat}

theorem countLoop_of_end (he : len < cur + 4) (fuel cnt : Nat) : countLoop byte len fuel cur cnt = cnt := by
  cases fuel with
  | zero => rfl
  | succ fuel => rw [countLoop, if_pos he]

variable (hfit : cur + 4 ≤ len) (fuel cnt : Nat)
include hfit

theorem countLoop_of_noSync (hsync : syncDet (byte cur) (byte (cur + 1)) = false) :
    countLoop byte len (fuel + 1) cur cnt = countLoop byte len fuel (cur + 1) cnt := by
  rw [countLoop, if_neg (Nat.not_lt.mpr hfit), hsync, if_neg Bool.false_ne_true]

theorem countLoop_of_reject {r : RejectReason} (hsync : syncDet (byte cur) (byte (cur + 1)) = true)
    (hv : validate (windowAt byte cur) = .reject r) :
    countLoop byte len (fuel + 1) cur cnt = countLoop byte len fuel (cur + 1) cnt := by
  rw [countLoop, if_neg (Nat.not_lt.mpr hfit), if_pos hsync, hv]

theorem countLoop_of_accept {n : Nat} (hsync : syncDet (byte cur) (byte (cur + 1)) = true)
    (hv : validate (windowAt byte cur) = .accept n) :
    countLoop byte len (fuel + 1) cur cnt = countLoop byte len fuel (cur + n) (cnt + 1) := by
  rw [countLoop, if_neg (Nat.not_lt.mpr hfit), if_pos hsync, hv]

end CountLoop

/-- The bound of R107 on a count: headers are at least 96 bytes apart, and the last one lies at most at LEN - 4. -/
def CountBound (len cnt : Nat) : Prop := cnt = 0 ∨ (4 ≤ len ∧ cnt ≤ (len - 4) / 96 + 1)

/-- The loop keeps the bound, as the headers counted so far fill 96 bytes each below the cursor. -/
theorem countLoop_bound {byte : Nat → Byte} {len : Nat} (fuel : Nat) : ∀ {cur cnt : Nat}, 96 * cnt ≤ cur → CountBound len cnt →
    CountBound len (countLoop byte len fuel cur cnt) := by
  induction fuel with
  | zero => exact fun _ h => h
  | succ fuel ih =>
    intro cur cnt hspread h
    rcases Nat.lt_or_ge len (cur + 4) with he | hfit
    · rw [countLoop_of_end he]; exact h
    cases hsync : syncDet (byte cur) (byte (cur + 1)) with
    | false => rw [countLoop_of_noSync hfit _ _ hsync]; exact ih (by omega) h
    | true =>
      cases hv : validate (windowAt byte cur) with
      | reject r => rw [countLoop_of_reject hfit _ _ hsync hv]; exact ih (by omega) h
      | accept n =>
        obtain ⟨hmin, -⟩ := validate_accept_bounds hv
        rw [countLoop_of_accept hfit _ _ hsync hv]
        exact ih (by omega) (.inr ⟨by omega, by omega⟩)

/-- Settles O44: the bound holds of the whole loop, and the three cases of 0 are its ends. -/
theorem countIsBounded : Obligations.CountIsBounded := by
  intro byte len
  have hbound : CountBound len (countFrames byte len) := countLoop_bound _ (Nat.zero_le _) (.inl rfl)
  rw [CountBound] at hbound
  exact ⟨by omega, fun _ => by omega, fun _ => by omega, noSyncMeansZero byte len, fun he => countLoop_of_end he _ _⟩

/-! ### A scan -/

/-- A machine in the middle of a scan that the host leaves alone, on a buffer that is behind the port. -/
structure ScanningAlone (s : State) : Prop where
  host : s.host = []
  rst : s.rst = false
  st : s.st = .scanning
  backed : s.len ≤ s.buf.extent

/-- A window step and an iteration of the loop move the cursor and the count alike. -/
theorem ScanningAlone.window_step {s : State} (h : ScanningAlone s) (hfit : s.cur + 4 ≤ s.len) : ∃ cur cnt, s.cur + 1 ≤ cur ∧
    step s = .next { s with cur := cur, cnt := cnt } ∧
    ∀ fuel, countLoop (bytesOf s.buf) s.len (fuel + 1) s.cur s.cnt = countLoop (bytesOf s.buf) s.len fuel cur cnt := by
  obtain ⟨hh, hr, hc, hx⟩ := h
  have hw := readWindow_of_extent hx hfit
  have hhit := syncHit_of_extent hx hfit
  rw [step_nil hh]
  cases hsync : syncDet (bytesOf s.buf s.cur) (bytesOf s.buf (s.cur + 1)) with
  | false =>
    exact ⟨s.cur + 1, s.cnt, Nat.le_refl _, blockStep_of_noSync hr hc hfit hw (hhit.trans hsync),
      fun fuel => countLoop_of_noSync hfit fuel s.cnt hsync⟩
  | true =>
    cases hv : validate (windowAt (bytesOf s.buf) s.cur) with
    | reject r =>
      exact ⟨s.cur + 1, s.cnt, Nat.le_refl _, blockStep_of_reject hr hc hfit hw hv,
        fun fuel => countLoop_of_reject hfit fuel s.cnt hsync hv⟩
    | accept n =>
      obtain ⟨hmin, -⟩ := validate_accept_bounds hv
      exact ⟨s.cur + n, s.cnt + 1, by omega, blockStep_of_accept hr hc hfit hw (hhit.trans hsync) hv,
        fun fuel => countLoop_of_accept hfit fuel s.cnt hsync hv⟩

/-- The first `n` steps are window steps of the scan: each from a window that fits, each moving the cursor forward. -/
def WindowSteps (n : Nat) (s : State) : Prop :=
  ∀ k, k < n → ∃ u v : State, Sys2Proof.core.run k s = .next u ∧ Sys2Proof.core.run (k + 1) s = .next v ∧
    v.st = .scanning ∧ u.cur + 4 ≤ s.len ∧ u.cur + 1 ≤ v.cur

theorem WindowSteps.zero (s : State) : WindowSteps 0 s := fun _ hk => absurd hk (Nat.not_lt_zero _)

theorem WindowSteps.cons {n : Nat} {s t : State} (hfit : s.cur + 4 ≤ s.len) (hstep : step s = .next t) (hst : t.st = .scanning)
    (hlen : t.len = s.len) (hcur : s.cur + 1 ≤ t.cur) (h : WindowSteps n t) : WindowSteps (n + 1) s := by
  intro k hk
  cases k with
  | zero => exact ⟨s, t, rfl, (run_next hstep).trans rfl, hst, hfit, hcur⟩
  | succ k =>
    obtain ⟨u, v, hu, hv, hvst, hufit, huv⟩ := h k (Nat.lt_of_succ_lt_succ hk)
    exact ⟨u, v, (run_next hstep).trans hu, (run_next hstep).trans hv, hvst, hlen ▸ hufit, huv⟩

/-- Where no window fits, END keeps the count, which is what the loop gives there. -/
theorem ScanningAlone.run_end {s : State} (h : ScanningAlone s) (he : s.len < s.cur + 4) (fuel : Nat) : Sys2Proof.core.run 1 s =
    .next { s with cnt := countLoop (bytesOf s.buf) s.len fuel s.cur s.cnt, st := .done } := by
  rw [countLoop_of_end he]
  exact (run_next ((step_nil h.host).trans (blockStep_end h.rst h.st he))).trans rfl

/-- A scan from any cursor: window steps within the bound of R102, then END, with the count of the loop; only CUR, CNT and ST change. -/
theorem ScanningAlone.runs_to_end (fuel : Nat) : ∀ {s : State}, ScanningAlone s → s.len - 3 - s.cur ≤ fuel →
    ∃ n cur, n ≤ s.len - 3 - s.cur ∧ WindowSteps n s ∧ Sys2Proof.core.run (n + 1) s =
      .next { s with cur := cur, cnt := countLoop (bytesOf s.buf) s.len fuel s.cur s.cnt, st := .done } := by
  induction fuel with
  | zero => exact fun {s} h hfuel => ⟨0, s.cur, Nat.zero_le _, .zero s, h.run_end (by omega) 0⟩
  | succ fuel ih =>
    intro s h hfuel
    rcases Nat.lt_or_ge s.len (s.cur + 4) with he | hfit
    · exact ⟨0, s.cur, Nat.zero_le _, .zero s, h.run_end he (fuel + 1)⟩
    obtain ⟨cur, cnt, hcur, hstep, hloop⟩ := h.window_step hfit
    have hfuel' : s.len - 3 - cur ≤ fuel := by omega
    obtain ⟨n, last, hn, hsteps, hrun⟩ := ih (s := { s with cur := cur, cnt := cnt }) ⟨h.host, h.rst, h.st, h.backed⟩ hfuel'
    have hn' : n ≤ s.len - 3 - cur := hn
    refine ⟨n + 1, last, by omega, .cons hfit hstep h.st rfl hcur hsteps, ?_⟩
    rw [hloop]
    exact (run_next hstep).trans hrun

/-- Settles O42: the invariant puts the scan's buffer behind the port, and the bound itself is fuel enough. -/
theorem scanTerminatesWithinBound : Obligations.ScanTerminatesWithinBound := by
  intro s h hh hr hc
  obtain ⟨n, _, hn, hsteps, hrun⟩ := ScanningAlone.runs_to_end _ ⟨hh, hr, hc, h.2 hc⟩ (Nat.le_refl (s.len - 3 - s.cur))
  exact ⟨n, _, hn, hrun, rfl, hsteps⟩

/-- Settles O47: the window step at the header is followed by END, as no window fits behind the frame. -/
theorem truncatedLastFrameIsCounted : Obligations.TruncatedLastFrameIsCounted := by
  intro s w n hh hr hc hfit hw hsync hv hover
  have hframe : step s = .next (s.countFrame n) := (step_nil hh).trans (blockStep_of_accept hr hc hfit hw hsync hv)
  have hend : step (s.countFrame n) = .next (s.countFrame n).finish :=
    (step_nil (s := s.countFrame n) hh).trans (blockStep_end (s := s.countFrame n) hr hc hover)
  rw [run_next hframe, run_next hend]
  rfl

/-! ### From LAUNCH to the result -/

/-- Without `start` the result of a scan stays: the machine is Scanning up to END and in one and the same Done state from there on
(44_driving_loop.md R101, R106). -/
theorem ScanningAlone.result {s : State} (h : ScanningAlone s) (hs : s.start = false) : ∃ (n : Nat) (t : State),
    (∀ k, k < n → ∃ v : State, Sys2Proof.core.run (k + 1) s = .next v ∧ v.st = .scanning) ∧
    (∀ m, Sys2Proof.core.run (n + 1 + m) s = .next t) ∧
    t.st = .done ∧ t.cnt = countLoop (bytesOf s.buf) s.len (s.len + 1) s.cur s.cnt ∧ t.buf = s.buf := by
  obtain ⟨n, cur, -, hsteps, hrun⟩ := h.runs_to_end (s.len + 1) (by omega)
  refine ⟨n, _, fun k hk => ?_, fun m => (run_add hrun).trans (run_still ?_ m), rfl, rfl, rfl⟩
  · obtain ⟨-, v, -, hv, hvst, -⟩ := hsteps k hk
    exact ⟨v, hv, hvst⟩
  · exact step_idle h.host h.rst rfl hs

/-- Settles O41: the launch starts the scan at the initial cursor with the count 0, which is where `countFrames` starts its loop. -/
theorem scanComputesCountFrames : Obligations.ScanComputesCountFrames := by
  intro s hh hr hd hs hduty
  refine ⟨_, step_launch_of_duty hh hr hd hs hduty, rfl, fun l => ?_⟩
  exact ScanningAlone.result (s := { s.startScan _ with start := false, lenIn := l }) ⟨hh, hr, rfl, hduty.2⟩ rfl

/-! ### A host that loads a buffer and launches it (70_reset_and_hazards.md R128) -/

theorem step_place {s : State} (hd : s.st = .done) (bs : List Byte) (h : List HostAction) :
    step (s.setHost (.place bs :: h)) = .next ((s.setBuf (Memory.ofBytes 0 bs)).setHost h) :=
  if_neg (by rw [State.setHost_st, State.setHost_st, hd]; nofun)

theorem step_drive (s : State) (r b : Bool) (l : Nat) (h : List HostAction) :
    step (s.setHost (.drive r b l :: h)) = .next ((s.drive r b l).setHost h) := rfl

/-- A dutiful launch of the block, whatever the host plans next. -/
theorem step_wait_launch {s : State} (hr : s.rst = false) (hd : s.st = .done) (hs : s.start = true) (hduty : LaunchDuty s)
    (h : List HostAction) : step (s.setHost (.wait :: h)) = .next ((s.startScan (initialCursor (bytesOf s.buf) s.lenIn)).setHost h) := by
  have hduty' : LaunchDuty (s.setHost h) := hduty
  have hlaunch : blockStep (s.setHost h) = exec (decodeTag (readTagHeader (s.setHost h))) (s.setHost h) := blockStep_launch hr hd hs
  exact hlaunch.trans ((exec_decodeTag_of_duty hduty').trans (launch_of_duty hduty' _))

/-- The state of a machine whose host has placed a buffer and driven `start` with its length, and which has taken LAUNCH. -/
def State.loadAndLaunch (bs : List Byte) (s : State) : State :=
  ((s.setBuf (Memory.ofBytes 0 bs)).drive false true bs.length).startScan
    (initialCursor (bytesOf (Memory.ofBytes 0 bs)) bs.length)

theorem run_loadAndLaunch {s : State} {bs : List Byte} (hd : s.st = .done) (hmax : bs.length ≤ Config.lenMax) (h : List HostAction) :
    Sys2Proof.core.run 3 (s.setHost (.place bs :: .drive false true bs.length :: .wait :: h)) =
      .next ((s.loadAndLaunch bs).setHost h) := by
  have hlaunch := step_wait_launch (s := (s.setBuf (Memory.ofBytes 0 bs)).drive false true bs.length) rfl hd rfl
    ⟨hmax, (Memory.extent_ofBytes bs).ge⟩ h
  rw [run_next (step_place hd bs _), run_next (step_drive ..), run_next hlaunch]
  rfl

/-- A placed buffer, as the byte function of statements about counts. -/
theorem bytesOf_ofBytes (bs : List Byte) : bytesOf (Memory.ofBytes 0 bs) = fun i => (bs[i]?).getD 0#8 := by
  funext i
  rw [bytesOf, ← Memory.read_ofBytes bs 0 i, Nat.zero_add]

/-- Settles O48: after LAUNCH and the drop of `start` the machine scans the placed bytes alone. -/
theorem loadedBufferIsCounted : Obligations.LoadedBufferIsCounted := by
  intro s bs l hd hh hmax
  have hlaunch := run_loadAndLaunch hd hmax [.drive false false l]
  rw [← hh, State.setHost_self] at hlaunch
  have hdrop : Sys2Proof.core.run 4 s = .next (((s.loadAndLaunch bs).drive false false l).setHost []) :=
    (run_add (k := 1) hlaunch).trans (run_next (step_drive ..))
  obtain ⟨n, t, hscan, hstay, hst, hcnt, hbuf⟩ :=
    ScanningAlone.result (s := ((s.loadAndLaunch bs).drive false false l).setHost [])
      ⟨rfl, rfl, rfl, (Memory.extent_ofBytes bs).ge⟩ rfl
  refine ⟨n, t, fun k hk => ?_, fun m => ?_, by rw [State.doneOut, hst]; rfl, ?_, fun i => ?_⟩
  · match k with
    | 0 => exact ⟨_, hlaunch, rfl⟩
    | 1 => exact ⟨_, hdrop, rfl⟩
    | k + 2 =>
      obtain ⟨v, hv, hvst⟩ := hscan k (by omega)
      exact ⟨v, by rw [show k + 2 + 3 = 4 + (k + 1) by omega, run_add hdrop, hv], hvst⟩
  · rw [show n + 5 + m = 4 + (n + 1 + m) by omega, run_add hdrop, hstay]
  · rw [← bytesOf_ofBytes]
    exact hcnt
  · rw [hbuf, ← Memory.read_ofBytes bs 0 i, Nat.zero_add]
    rfl

end Sys2Proof.Machine

/-! PROOFS. The family of 60_exceptions.md: what an action of the host changes (R118; 70_reset_and_hazards.md R128), and for which
broken duty of the host a step is refused (R110, R112; 70_reset_and_hazards.md R129). -/

namespace Sys2Proof.Machine

/-! ### The host's writes -/

theorem step_store_of_scanning {s : State} {o : Nat} {v : Byte} {h : List HostAction} (e : s.host = .store o v :: h)
    (hc : s.st = .scanning) : step s = .refused .bufferWrittenDuringScan := (step_act e nofun).trans (if_pos hc)

theorem step_place_of_scanning {s : State} {bs : List Byte} {h : List HostAction} (e : s.host = .place bs :: h)
    (hc : s.st = .scanning) : step s = .refused .bufferWrittenDuringScan := (step_act e nofun).trans (if_pos hc)

theorem step_store_of_done {s : State} {o : Nat} {v : Byte} {h : List HostAction} (e : s.host = .store o v :: h)
    (hd : s.st = .done) : step s = .next ((s.setBuf (s.buf.write o v)).setHost h) :=
  (step_act e nofun).trans (if_neg (by rw [State.setHost_st, hd]; nofun))

theorem step_place_of_done {s : State} {bs : List Byte} {h : List HostAction} (e : s.host = .place bs :: h)
    (hd : s.st = .done) : step s = .next ((s.setBuf (Memory.ofBytes 0 bs)).setHost h) := by
  have hplace := step_place hd bs h
  rwa [← e, State.setHost_self] at hplace

/-- Settles O33, action by action: the memory after a store is the written one, and after a placing the placed buffer. -/
theorem hostActionsTouchOnlyTheirOwn : Obligations.HostActionsTouchOnlyTheirOwn := by
  refine fun s h => ⟨fun r b l e => step_act e nofun, fun o v e => ⟨step_store_of_scanning e, fun hd => ?store⟩,
    fun bs e => ⟨step_place_of_scanning e, fun hd => ?place⟩⟩
  case store =>
    exact ⟨s.buf.write o v, step_store_of_done e hd, Memory.read_write_same _ o v, fun a => Memory.read_write_other _ o a v⟩
  case place =>
    refine ⟨Memory.ofBytes 0 bs, step_place_of_done e hd, fun a => ?_, Memory.extent_ofBytes bs⟩
    rw [← Memory.read_ofBytes bs 0 a, Nat.zero_add]

/-! ### What a step is refused for -/

/-- In a state of the invariant the block is refused for the length of a launch only, the window read being answered. -/
theorem Inv.blockStep_refused {s : State} {r : Refusal} (h : Inv s) (e : blockStep s = .refused r) :
    s.st = .done ∧ s.start = true ∧
      ((r = .lenBeyondMax ∧ Config.lenMax < s.lenIn) ∨ (r = .lenBeyondMemory ∧ s.buf.extent < s.lenIn)) := by
  obtain hlaunch | ⟨-, -, -, rfl⟩ := Machine.blockStep_refused e
  · exact hlaunch
  · exact absurd e h.blockStep_answered

/-- Settles O39: the block is refused for a launch and the host for a write in Scanning; a fault has no reason to name. -/
theorem onlyBrokenDutiesAreRefused : Obligations.OnlyBrokenDutiesAreRefused := by
  refine ⟨fun s r h e => ?_, fun _ f => nomatch f⟩
  obtain ⟨l, q⟩ | ⟨a, l, ha, -, q⟩ := step_cases s
  · obtain ⟨hd, hs, ⟨hr, hlen⟩ | ⟨hr, hlen⟩⟩ := Inv.blockStep_refused (s := s.setHost l) h (q.symm.trans e)
    · exact .inr (.inl ⟨hr, hd, hs, hlen⟩)
    · exact .inr (.inr ⟨hr, hd, hs, hlen⟩)
  · obtain ⟨hr, hc, hwrite⟩ := hostAct_refused (q.symm.trans e)
    exact .inl ⟨hr, hc, a, l, ha, hwrite⟩

end Sys2Proof.Machine

/-! PROOFS. The family of 70_reset_and_hazards.md: the values reset leaves (R125), and where a launch is refused (R129;
44_driving_loop.md R95 (e), 20_memory.md R44). -/

namespace Sys2Proof.Machine

/-! ### Reset -/

/-- Settles O30: with `rst` asserted the block resets its registers before it looks at ST. -/
theorem resetStateValues : Obligations.ResetStateValues :=
  ⟨⟨rfl, rfl, rfl, rfl, rfl, rfl⟩, fun _ hh hr => (step_nil hh).trans (blockStep_rst hr)⟩

/-! ### A launch with a broken length duty -/

theorem launch_of_lenBeyondMax {s : State} (h : Config.lenMax < s.lenIn) (n : Nat) : launch n s = .refused .lenBeyondMax := if_pos h

theorem launch_of_lenBeyondMemory {s : State} (hmax : s.lenIn ≤ Config.lenMax) (h : s.buf.extent < s.lenIn) (n : Nat) :
    launch n s = .refused .lenBeyondMemory := (if_neg (Nat.not_lt.mpr hmax)).trans (if_pos h)

theorem launch_eq_lenBeyondMax {n : Nat} {s : State} : launch n s = .refused .lenBeyondMax ↔ Config.lenMax < s.lenIn := by
  refine ⟨fun e => ?_, fun h => launch_of_lenBeyondMax h n⟩
  obtain ⟨-, h⟩ | ⟨hr, -⟩ := launch_eq_refused e
  · exact h
  · cases hr

theorem launch_eq_lenBeyondMemory {n : Nat} {s : State} :
    launch n s = .refused .lenBeyondMemory ↔ s.lenIn ≤ Config.lenMax ∧ s.buf.extent < s.lenIn := by
  refine ⟨fun e => ?_, fun ⟨hmax, h⟩ => launch_of_lenBeyondMemory hmax h n⟩
  obtain ⟨hr, -⟩ | ⟨-, h⟩ := launch_eq_refused e
  · cases hr
  · refine ⟨Nat.le_of_not_lt fun hmax => ?_, h⟩
    cases e.symm.trans (launch_of_lenBeyondMax hmax n)

/-- The rows of a tag header are the LAUNCH rows (30_encoding.md R54). -/
theorem exec_of_tagHeader {i : Instr} (hf : i.format = .tagHeader) (s : State) : ∃ n, exec i s = launch n s := by
  obtain ⟨-, n, -, e⟩ | ⟨rfl, -⟩ | ⟨hw, -⟩ | ⟨hw, -⟩ := exec_cases i s
  · exact ⟨n, e⟩
  · cases hf
  · cases hf.symm.trans hw
  · cases hf.symm.trans hw

/-- Settles O21: both rows are a launch, and whatever its cursor a launch tests the length against LEN_MAX first. -/
theorem launchRefusesBrokenLengthDuty : Obligations.LaunchRefusesBrokenLengthDuty := by
  intro s i hf
  obtain ⟨n, e⟩ := exec_of_tagHeader hf s
  rw [e]
  exact ⟨launch_eq_lenBeyondMax, launch_eq_lenBeyondMemory⟩

end Sys2Proof.Machine
